-- ==== Sys2Proof/Word.lean ====
section
/-! DEFINITION. The widths of the Vicmerra 408's link operands and the plain arithmetic of its ranges. -/

namespace Sys2Proof

/-- One byte on the command link (section 12.4: "a whole number from 0 to 255"). -/
abbrev Byte := BitVec 8

/-- A two-byte operand of the command link, most significant byte first (section 5, Link fields). -/
abbrev Half := BitVec 16

/-- A value outside its range becomes the nearer end (section 5, Quantities). -/
def clampTo (lo hi x : Nat) : Nat := max lo (min x hi)

/-- A counter that stays at its largest value (section 5, Counters). -/
def satAdd (top n : Nat) : Nat := min (n + 1) top

/-- Whole-number division rounded up. -/
def ceilDiv (n d : Nat) : Nat := (n + d - 1) / d

end Sys2Proof
end

