-- ==== Sys2Proof/Config.lean ====
section
/-! DEFINITION. What the manual leaves to the part: the choice between events that fall together. -/

namespace Sys2Proof

/-- The part's choice, the `n`-th time it has one, between events that fall due together. R172 says that
"either may be taken first"; nothing in the model can evaluate it, so a claim holds for every choice.
DESIGN CHOICE (notes/assumptions/2.md). -/
opaque Config.arbiter : Nat → Nat

end Sys2Proof
end

