-- ==== Sys2Proof/Syntax.lean ====
section
/-! DEFINITION. The commands of the Vicmerra 408: one constructor for each row of spec/opcode_table.json, in
the table's order. A request carries the operands of the table of section 12.5, each as the byte or bytes the
host sends; an event of the road, the lamps, the timers or the pins names its channel, lane or ramp. -/

namespace Sys2Proof

/-- The fourteen operands of PLAN WRITE in the order and widths of the table of section 4.1 (24 bytes). -/
structure PlanOperands where
  target       : Half
  gain         : Byte
  rateMin      : Half
  rateMax      : Half
  rateStart    : Half
  rateFallback : Half
  maxWait      : Half
  spillOcc     : Half
  spillStep    : Half
  onOcc        : Half
  onCount      : Byte
  offOcc       : Half
  offCount     : Byte
  offQueue     : Byte
  deriving DecidableEq, Repr

/-- The commands. The requests stand for a complete frame, from the fall of CS_N to its evaluation (R167); the
events are the other steps of the opcode table. -/
inductive Instr where
  /-- READ CAPS (R173). -/
  | readCaps
  /-- READ STATUS (R174). -/
  | readStatus
  /-- KEEPALIVE (R159). -/
  | keepalive (token : Byte)
  /-- SUPERVISION SET (R158). -/
  | supervisionSet (enable t1 : Byte) (t2 : Half)
  /-- SET LOCK (R162). -/
  | setLock (kind : Byte)
  /-- CLEAR CAUSES (R164). -/
  | clearCauses
  /-- RESTART ARM (R165). -/
  | restartArm
  /-- RESTART (R166). -/
  | restart
  /-- The rise of CS_N that ends the frame of an accepted RESTART (R163, R166). -/
  | commandRestart
  /-- The core supply rises: a power-up reset begins (R163). -/
  | powerUpReset
  /-- RESET_N goes low: a pin reset begins (R163). -/
  | pinReset
  /-- The crystal clock has been absent for 2 ms: a clock-loss reset begins (R163). -/
  | clockLossReset
  /-- A fall of CS_N (R167). -/
  | frameBegin
  /-- A rise of CS_N before the frame's request has been evaluated (R169). -/
  | shortFrame
  /-- A complete opcode byte that is not in the table of section 12.5 (R170). -/
  | badOpcode (opcode : Byte)
  /-- DETECTOR CONFIGURE (R19). -/
  | detectorConfigure (channel role binding settle stuckOn silent chatter : Byte)
  /-- DETECTOR READ (R21). -/
  | detectorRead (channel : Byte)
  /-- DETECTOR PARK (R16). -/
  | detectorPark (channel : Byte)
  /-- DETECTOR UNPARK (R17). -/
  | detectorUnpark (channel : Byte)
  /-- DETECTOR RESTORE (R15). -/
  | detectorRestore (channel : Byte)
  /-- PLAN WRITE (R48). -/
  | planWrite (plan : Byte) (fields : PlanOperands)
  /-- PLAN READ (R58). -/
  | planRead (plan : Byte)
  /-- PLAN RETIRE (R56). -/
  | planRetire (plan : Byte)
  /-- RAMP CONFIGURE (R61). -/
  | rampConfigure (ramp interval capacity queuePos emptyCheck queueCheck : Byte) (holdOff : Half)
  /-- RAMP READ (R79). -/
  | rampRead (ramp : Byte)
  /-- RAMP PLAN (R72). -/
  | rampPlan (ramp plan : Byte)
  /-- RAMP START (R64). -/
  | rampStart (ramp : Byte)
  /-- RAMP STOP (R66). -/
  | rampStop (ramp : Byte)
  /-- RAMP SUSPEND (R75). -/
  | rampSuspend (ramp minutes : Byte)
  /-- RAMP RESUME (R76). -/
  | rampResume (ramp : Byte)
  /-- RAMP OVERRIDE (R73). -/
  | rampOverride (ramp : Byte) (rate : Half) (minutes : Byte)
  /-- RAMP OVERRIDE CANCEL (R74). -/
  | rampOverrideCancel (ramp : Byte)
  /-- RAMP CLOSE (R62). -/
  | rampClose (ramp : Byte)
  /-- RAMP MODE (R69). -/
  | rampMode (ramp mode : Byte)
  /-- LANE CONFIGURE (R128). -/
  | laneConfigure (lane ramp green amber : Byte) (minRed : Half) (startAmber : Byte) (flush : Half)
  /-- LANE READ (R132). -/
  | laneRead (lane : Byte)
  /-- LANE ENABLE (R129). -/
  | laneEnable (lane : Byte)
  /-- LANE DISABLE (R130). -/
  | laneDisable (lane : Byte)
  /-- LANE RESTORE (R131). -/
  | laneRestore (lane : Byte)
  /-- FAULT READ (R151). -/
  | faultRead
  /-- FAULT CLEAR (R152). -/
  | faultClear (mask : Half)
  /-- ALERT MASK (R154). -/
  | alertMask (mask : Half)
  /-- LAMP SETTINGS (R146). -/
  | lampSettings (qualify recheckN : Byte)
  /-- A qualified rising edge of a channel (R6). -/
  | actuation (channel : Fin 32)
  /-- A qualified falling edge of a channel (R6). -/
  | qualifiedFallingEdge (channel : Fin 32)
  /-- An acquiring channel takes its first presence (R5). -/
  | acquisition (channel : Fin 32)
  /-- A channel's continuous-on timer reaches its stuck-on time (R11). -/
  | stuckOnExpiry (channel : Fin 32)
  /-- A channel's silence timer reaches its silent time (R12). -/
  | silenceExpiry (channel : Fin 32)
  /-- The end of a channel's 1 s chatter window (R13). -/
  | chatterWindowEnd (channel : Fin 32)
  /-- A QUEUE channel's queue timer reaches the queue check (R41). -/
  | queueCorrection (channel : Fin 32)
  /-- A ramp's empty timer reaches the empty check (R43). -/
  | emptyCorrection (ramp : Fin 4)
  /-- A ramp's interval elapsed reaches its control interval (R63). -/
  | intervalClose (ramp : Fin 4)
  /-- The remaining minutes of a ramp's override run out (R74). -/
  | overrideExpiry (ramp : Fin 4)
  /-- A ramp's suspension maximum runs out (R76). -/
  | suspensionExpiry (ramp : Fin 4)
  /-- A ramp's hold-off remaining counts down to 0 (R77). -/
  | holdOffEnd (ramp : Fin 4)
  /-- A ready metering ramp grants the head of its waiting list (R104). -/
  | grant (ramp : Fin 4)
  /-- A proving lane's clear run reaches 1.0 s (R116). -/
  | provingClear (lane : Fin 8)
  /-- A proving lane's 3.0 s window ends without a clear run (R135). -/
  | provingWindowEnd (lane : Fin 8)
  /-- A lane's start amber expires (R117). -/
  | startAmberExpiry (lane : Fin 8)
  /-- A lane's min red expires (R118). -/
  | minRedExpiry (lane : Fin 8)
  /-- A lane's green expires (R120). -/
  | greenExpiry (lane : Fin 8)
  /-- A lane's amber expires (R120). -/
  | amberExpiry (lane : Fin 8)
  /-- A lane's flush green expires (R124). -/
  | flushExpiry (lane : Fin 8)
  /-- A lane's settle timer runs out (R134). -/
  | senseSettleEnd (lane : Fin 8)
  /-- A settled red lane is seen with its red sense low (R139). -/
  | redSuspectOnset (lane : Fin 8)
  /-- A red-suspect lane's re-check timer runs out (R140). -/
  | redRecheck (lane : Fin 8)
  /-- A lane's conflict timer reaches the conflict qualify time (R137). -/
  | conflictQualified (lane : Fin 8)
  /-- A settled amber or green lane is seen with its lamp dark (R142). -/
  | auxLampOut (lane : Fin 8)
  /-- LSUP has been low for 100 ms (R143). -/
  | supplyLoss
  /-- LSUP has been high for 2.0 s (R144). -/
  | supplyReturn
  /-- The supervision timer reaches T1 (R160). -/
  | stage1Onset
  /-- The supervision timer reaches T1 + T2 (R160). -/
  | stage2Onset
  /-- The last of the kinds that made up the reset in progress has ended (R163). -/
  | resetEnd
  /-- A change of the raw level of DETn, as the 10 ms sample that shows it sees it (R4). -/
  | detectorInputChange (channel : Fin 32) (high : Bool)
  /-- A change of a lane's three sense inputs, as the 10 ms sample that shows it sees them (R134, R136). -/
  | lampSenseChange (lane : Fin 8) (red amber green : Bool)
  /-- A change of LSUP, as the 10 ms sample that shows it sees it (R134, R143, R144). -/
  | lampSupplyInputChange (high : Bool)
  deriving DecidableEq, Repr

end Sys2Proof
end

