-- ==== Sys2Proof/Machine/Records.lean ====
section
/-! DEFINITION. The records of the Vicmerra 408 and their full-reset values: detector channels (section 1.1), plans
(4.1), the parts of a ramp (2.1, 3.1, 5.1, 6.1, 7.1), lanes (8.1, 9.1), and the units of the part as a whole. -/

namespace Sys2Proof.Machine

/-! ## Detector channels -/

/-- The six roles of section 1.2. -/
inductive Role where
  | unused | mainline | entry | queue | demand | passage
  deriving DecidableEq, Repr

/-- A role together with the binding that R3 allows it: a ramp for MAINLINE, ENTRY and QUEUE, a lane for DEMAND
and PASSAGE, none for UNUSED. -/
inductive Duty where
  | unused
  | mainline (ramp : Fin 4)
  | entry (ramp : Fin 4)
  | queue (ramp : Fin 4)
  | demand (lane : Fin 8)
  | passage (lane : Fin 8)
  deriving DecidableEq, Repr

/-- The fault kinds of a detector channel (section 1.6). -/
inductive ChannelFault where
  | stuckOn | silent | chatter
  deriving DecidableEq, Repr

/-- The state of a channel (section 1.3); the fault kind is present in FAULTED alone. -/
inductive ChannelState where
  | unused
  | active
  | faulted (kind : ChannelFault)
  | parked
  deriving DecidableEq, Repr

/-- A detector channel record with its working state (section 1.1), the level of its input, and the queue timer and
served mark that Queue Accounting keeps for it (section 3.1). Times are in 10 ms units unless said otherwise. -/
structure Channel where
  /-- role and binding -/
  duty : Duty
  settle : Nat
  /-- stuck-on time, min -/
  stuckOn : Nat
  /-- silent time, min -/
  silent : Nat
  /-- chatter limit -/
  chatter : Nat
  state : ChannelState
  /-- qualified presence -/
  occupied : Bool
  onTime : Nat
  count : Nat
  latchedOnTime : Nat
  latchedCount : Nat
  latchedOcc : Nat
  latchedValid : Bool
  continuousOn : Nat
  silence : Nat
  windowCount : Nat
  /-- the qualification timer -/
  qualification : Nat
  acquiring : Bool
  periodMark : Bool
  windowPhase : Nat
  /-- the queue timer, ticks -/
  queueTimer : Nat
  served : Bool
  /-- the level of DETn as last sampled -/
  input : Bool
  deriving DecidableEq, Repr

/-- The values of R1; the level of the pin is not the part's to reset. -/
def Channel.fullReset (input : Bool) : Channel where
  duty := .unused
  settle := 2
  stuckOn := 5
  silent := 0
  chatter := 8
  state := .unused
  occupied := false
  onTime := 0
  count := 0
  latchedOnTime := 0
  latchedCount := 0
  latchedOcc := 0
  latchedValid := false
  continuousOn := 0
  silence := 0
  windowCount := 0
  qualification := 0
  acquiring := false
  periodMark := false
  windowPhase := 0
  queueTimer := 0
  served := false
  input := input

/-! ## Plans -/

/-- The fourteen parameter fields of a plan (section 4.1). -/
structure PlanFields where
  target       : Nat
  gain         : Nat
  rateMin      : Nat
  rateMax      : Nat
  rateStart    : Nat
  rateFallback : Nat
  maxWait      : Nat
  spillOcc     : Nat
  spillStep    : Nat
  onOcc        : Nat
  onCount      : Nat
  offOcc       : Nat
  offCount     : Nat
  offQueue     : Nat
  deriving DecidableEq, Repr

/-- The FREE value column of section 4.1. -/
def PlanFields.free : PlanFields where
  target := 280
  gain := 7
  rateMin := 240
  rateMax := 1800
  rateStart := 900
  rateFallback := 900
  maxWait := 240
  spillOcc := 500
  spillStep := 120
  onOcc := 250
  onCount := 3
  offOcc := 180
  offCount := 5
  offQueue := 5

/-- A plan record: DEFINED or FREE, and its fields. -/
structure Plan where
  defined : Bool
  fields  : PlanFields
  deriving DecidableEq, Repr

/-- A FREE plan (R47, R56). -/
def Plan.free : Plan where
  defined := false
  fields := PlanFields.free

/-! ## Ramps -/

/-- The states of a ramp (section 5.2). -/
inductive RampState where
  | closed | standby | metering | suspended | stopping
  deriving DecidableEq, Repr

/-- The mode of a ramp (R69). -/
inductive Mode where
  | host | auto
  deriving DecidableEq, Repr

/-- A standing override: its rate, its remaining minutes, and the 10 ms units run of the current minute (R74). -/
structure Override where
  rate    : Nat
  minutes : Nat
  run     : Nat
  deriving DecidableEq, Repr

/-- The suspension remaining: minutes, and the 10 ms units run of the current minute (R76). -/
structure Suspension where
  minutes : Nat
  run     : Nat
  deriving DecidableEq, Repr

/-- The Ramp Control part of a ramp record (section 5.1). -/
structure RampControl where
  state : RampState
  mode : Mode
  /-- control interval, s -/
  interval : Nat
  /-- interval elapsed, ticks -/
  elapsed : Nat
  active : Option (Fin 16)
  pending : Option (Fin 16)
  /-- suspend hold-off, s -/
  suspendHoldOff : Nat
  /-- hold-off remaining, s -/
  holdOff : Nat
  /-- 10 ms units run of the current second of the hold-off (R77) -/
  holdOffRun : Nat
  override : Option Override
  suspension : Option Suspension
  onRun : Nat
  offRun : Nat
  deriving DecidableEq, Repr

/-- The values of R59. -/
def RampControl.fullReset : RampControl where
  state := .closed
  mode := .host
  interval := 30
  elapsed := 0
  active := none
  pending := none
  suspendHoldOff := 120
  holdOff := 0
  holdOffRun := 0
  override := none
  suspension := none
  onRun := 0
  offRun := 0

/-- The station part (section 2.1). -/
structure Station where
  /-- mainline status: VALID, or else LOST -/
  valid : Bool
  occupancy : Nat
  flow : Nat
  size : Nat
  deriving DecidableEq, Repr

/-- The starting values of R22. -/
def Station.start : Station where
  valid := true
  occupancy := 0
  flow := 0
  size := 0

/-- The queue part (section 3.1). -/
structure Queue where
  capacity : Nat
  position : Nat
  /-- empty check, s -/
  emptyCheck : Nat
  /-- queue check, s -/
  queueCheck : Nat
  stored : Nat
  spill : Bool
  entryDegraded : Bool
  overflow : Nat
  slip : Nat
  corrections : Nat
  /-- the empty timer, ticks -/
  emptyTimer : Nat
  armed : Bool
  deriving DecidableEq, Repr

/-- The values of R31. -/
def Queue.fullReset : Queue where
  capacity := 60
  position := 30
  emptyCheck := 20
  queueCheck := 10
  stored := 0
  spill := false
  entryDegraded := false
  overflow := 0
  slip := 0
  corrections := 0
  emptyTimer := 0
  armed := false

/-- The decision codes (R93). -/
inductive Decision where
  | none | start | feedback | fallback | min | max | wait | spill | cap | override
  deriving DecidableEq, Repr

/-- The rate part (section 6.1). -/
structure Rate where
  final : Nat
  headway : Nat
  decision : Decision
  e : Int
  r1 : Int
  r2 : Nat
  rWait : Nat
  rSpill : Nat
  ceiling : Nat
  deriving DecidableEq, Repr

/-- The values of R80. -/
def Rate.fullReset : Rate where
  final := 0
  headway := 0
  decision := .none
  e := 0
  r1 := 0
  r2 := 0
  rWait := 0
  rSpill := 0
  ceiling := 0

/-- The Scheduler state (section 7.1): the waiting list, oldest join first, and since-last-grant in ds. -/
structure Scheduler where
  waiting : List (Fin 8)
  sinceGrant : Nat
  /-- THE MODEL'S OWN FIELD: the ramp entered METERING at this moment: no time has passed and no grant has been given
  since (R107, notes/assumptions/22.md) -/
  fresh : Bool
  deriving DecidableEq, Repr

/-- The values of R98. -/
def Scheduler.fullReset : Scheduler where
  waiting := []
  sinceGrant := 0
  fresh := false

/-- A ramp record, in the parts of its owning blocks (section 5.1). -/
structure Ramp where
  ctl     : RampControl
  station : Station
  queue   : Queue
  rate    : Rate
  sched   : Scheduler
  deriving DecidableEq, Repr

/-- A CLOSED ramp's record: every field at its full-reset value (R59, R62). -/
def Ramp.fullReset : Ramp where
  ctl := .fullReset
  station := .start
  queue := .fullReset
  rate := .fullReset
  sched := .fullReset

/-! ## Lanes -/

/-- The lockout causes (section 8.1). -/
inductive LockCause where
  | conflict | redLamp | outputStuck
  deriving DecidableEq, Repr

/-- The eleven states of a lane (section 8.3); the lockout cause is present in FAULT_LOCKED alone. -/
inductive LaneState where
  | dark | proving | starting | redMin | redReady | green | amber | resting | flush | supplyOut
  | faultLocked (cause : LockCause)
  deriving DecidableEq, Repr

/-- The aspect a lane commands (R113). -/
inductive Aspect where
  | none | red | amber | green
  deriving DecidableEq, Repr

/-- One Bool for each lamp of a lane: the levels of its sense inputs, or a set of its lamps. -/
structure Lamps where
  red   : Bool
  amber : Bool
  green : Bool
  deriving DecidableEq, Repr

/-- No lamp. -/
def Lamps.dark : Lamps where
  red := false
  amber := false
  green := false

/-- Where a lane's conflict timer stands to its qualification (R136): counting; reached at the last sample and not yet
taken, with the detail (1 or 2) that this sample showed; taken and not yet returned to 0; or dropped, the timer at 0, by an
entry to SUPPLY_OUT at this moment (R138). How long that moment lasts: notes/assumptions/23.md. -/
inductive ConflictMark where
  | counting
  | reached (detail : Nat)
  | taken
  | dropped
  deriving DecidableEq, Repr

/-- A lane record (section 8.1) with the working state the Lamp Monitor keeps for it (section 9.1) and the levels of
its sense inputs. Lamp times are in 10 ms units, lane times in ds. -/
structure Lane where
  ramp : Option (Fin 4)
  inService : Bool
  leaving : Bool
  state : LaneState
  /-- the state timer, ds -/
  timer : Nat
  greenTime : Nat
  amberTime : Nat
  minRed : Nat
  startAmber : Nat
  flushGreen : Nat
  redSuspect : Bool
  rechecks : Nat
  transients : Nat
  releases : Nat
  /-- the settle timer; `none` once it has run out (it is 0) -/
  settle : Option Nat
  /-- the conflict timer -/
  conflict : Nat
  conflictMark : ConflictMark
  /-- THE MODEL'S OWN FIELD: the conflict timer as it stood before the last sample (notes/assumptions/5.md) -/
  conflictBefore : Nat
  /-- THE MODEL'S OWN FIELD: the conflict mark as it stood before the last sample -/
  markBefore : ConflictMark
  /-- the re-check timer -/
  recheck : Nat
  clearRun : Nat
  /-- the proving seen set -/
  seen : Lamps
  auxMark : Bool
  /-- what is left of the 3.0 s proving window, at the resolution of R116 -/
  provingLeft : Nat
  /-- LnSRED, LnSAMB, LnSGRN as last sampled -/
  sense : Lamps
  deriving DecidableEq, Repr

/-- The values of R110 and R133; the levels of the pins are not the part's to reset. -/
def Lane.fullReset (sense : Lamps) : Lane where
  ramp := none
  inService := false
  leaving := false
  state := .dark
  timer := 0
  greenTime := 15
  amberTime := 20
  minRed := 20
  startAmber := 50
  flushGreen := 150
  redSuspect := false
  rechecks := 0
  transients := 0
  releases := 0
  settle := none
  conflict := 0
  conflictMark := .counting
  conflictBefore := 0
  markBefore := .counting
  recheck := 0
  clearRun := 0
  seen := .dark
  auxMark := false
  provingLeft := 0
  sense := sense

/-! ## The part as a whole -/

/-- The Lamp Monitor's settings and the lamp supply (section 9.1), with the level of LSUP. -/
structure LampUnit where
  /-- conflict qualify time, 10 ms units -/
  qualify : Nat
  /-- the red re-check count N -/
  recheckN : Nat
  /-- supply state: PRESENT, or else OUT -/
  present : Bool
  /-- the supply timer, 10 ms units -/
  supplyTimer : Nat
  /-- LSUP as last sampled -/
  lsup : Bool
  deriving DecidableEq, Repr

/-- The values of R133. -/
def LampUnit.fullReset (lsup : Bool) : LampUnit where
  qualify := 20
  recheckN := 3
  present := false
  supplyTimer := 0
  lsup := lsup

/-- The thirteen fault kinds, in the order of their numbers 1 to 13 (section 10.1). -/
inductive FaultKind where
  | detStuckOn | detSilent | detChatter | mainlineLost | queueSpill | conflict | redLampOut | outputStuck
  | auxLampOut | lampTransient | supplyLoss | hostLost | autoChange
  deriving DecidableEq, Repr

/-- The object classes of a fault report (section 10.1). -/
inductive ObjectClass where
  | detector | lane | ramp | part
  deriving DecidableEq, Repr

/-- The first-fault record when it is filled (section 10.2). -/
structure FaultRecord where
  kind   : FaultKind
  object : ObjectClass
  /-- the index, 0xFF for none -/
  index  : Nat
  detail : Nat
  uptime : Nat
  deriving DecidableEq, Repr

/-- The Fault Register (section 10.2). Kind n is bit n of the two words; the count of kind n is entry n - 1. -/
structure FaultRegister where
  flags   : BitVec 16
  counts  : Vector Nat 13
  first   : Option FaultRecord
  further : Bool
  mask    : BitVec 16
  deriving DecidableEq, Repr

/-- The values after every reset (R148). -/
def FaultRegister.reset : FaultRegister where
  flags := 0
  counts := Vector.replicate 13 0
  first := none
  further := false
  mask := 0x3BFE

/-- The supervision stage (section 11.1). -/
inductive Stage where
  | present | one | two
  deriving DecidableEq, Repr

/-- The supervision state (section 11.1). -/
structure Supervision where
  enable : Bool
  /-- T1, s -/
  t1 : Nat
  /-- T2, s -/
  t2 : Nat
  stage : Stage
  /-- the supervision timer, ticks -/
  timer : Nat
  lastToken : Byte
  firstMark : Bool
  /-- THE MODEL'S OWN FIELD: a keepalive has been accepted at this moment: no time has passed since (R159,
  notes/assumptions/4.md) -/
  keptAlive : Bool
  deriving DecidableEq, Repr

/-- The values of R157. -/
def Supervision.fullReset : Supervision where
  enable := false
  t1 := 60
  t2 := 600
  stage := .present
  timer := 0
  lastToken := 0
  firstMark := true
  keptAlive := false

/-- The two set-once locks (R162). -/
structure Locks where
  supervision : Bool
  timing      : Bool
  deriving DecidableEq, Repr

/-- The kinds of full reset that make up a reset (R163). -/
structure ResetKinds where
  power : Bool
  pin   : Bool
  clock : Bool
  deriving DecidableEq, Repr

/-- No reset. -/
def ResetKinds.none : ResetKinds where
  power := false
  pin := false
  clock := false

/-- The reset-cause flags (R164). -/
structure Causes where
  power   : Bool
  pin     : Bool
  clock   : Bool
  command : Bool
  deriving DecidableEq, Repr

/-- Resets, the restart arming and the uptime (sections 11.4, 11.5). -/
structure ResetUnit where
  /-- the arming mark (R165) -/
  armed : Bool
  /-- an accepted RESTART waits for CS_N to rise (R166) -/
  restartPending : Bool
  /-- the kinds of the full reset in progress; all false when none is -/
  inReset : ResetKinds
  causes : Causes
  /-- uptime, s -/
  uptime : Nat
  /-- 10 ms units run of the current second of the uptime -/
  uptimeRun : Nat
  deriving DecidableEq, Repr

/-- The result codes (section 12.5), in the order of their numbers. -/
inductive Result where
  | ok | clamped | badOpcode | badId | badValue | undefined | inUse | wrongState | locked | tooSoon
  | faultPending | notArmed | rampsActive | sequence | parked | lockedOut | supervision
  deriving DecidableEq, Repr

/-- The reception state of the command link: CS_N high; a frame being received; a frame evaluated, in its reply phase;
or CS_N low since a reset, so that it must rise and fall again (R167). -/
inductive LinkPhase where
  | idle | receiving | reply | waitRise
  deriving DecidableEq, Repr

/-- The Command Link (chapter 12): the reception state, the short-frame count, and the result and reply bytes formed
when the last frame was evaluated (R168). -/
structure Link where
  phase : LinkPhase
  shortFrames : Nat
  result : Option Result
  reply : List Byte
  deriving DecidableEq, Repr

/-- The starting values of R169 in the reception state given. -/
def Link.start (phase : LinkPhase) : Link where
  phase := phase
  shortFrames := 0
  result := none
  reply := []

end Sys2Proof.Machine
end

