-- ==== Sys2Proof/Machine/Operands.lean ====
section
/-! DEFINITION. The operand forms of the requests: index operands (section 5, Indices; R171), role and binding (R19),
numeric operands brought into their ranges (R48, R61, R128), and the byte order of the link (section 5, Link fields). -/

namespace Sys2Proof

/-! ## Bytes of the link, most significant first -/

/-- A number as one byte. -/
def byteOf (n : Nat) : Byte := BitVec.ofNat 8 n

/-- A bit as a number. -/
def bit (b : Bool) : Nat := if b then 1 else 0

/-- A two-byte field, most significant byte first. -/
def be16 (n : Nat) : List Byte := [byteOf (n / 256), byteOf n]

/-- A four-byte field, most significant byte first. -/
def be32 (n : Nat) : List Byte :=
  [byteOf (n / 16777216), byteOf (n / 65536), byteOf (n / 256), byteOf n]

/-- A signed two-byte field, two's complement (section 12.6). -/
def be16s (n : Int) : List Byte := be16 (BitVec.ofInt 16 n).toNat

/-- A signed four-byte field, two's complement (section 12.6). -/
def be32s (n : Int) : List Byte := be32 (BitVec.ofInt 32 n).toNat

/-- The two-byte operand whose bytes are `hi`, sent first, and `lo`. -/
def halfOf (hi lo : Byte) : Half := hi ++ lo

/-- The byte of a two-byte operand that is sent first. -/
def hiByte (w : Half) : Byte := w.extractLsb' 8 8

/-- The byte of a two-byte operand that is sent last. -/
def loByte (w : Half) : Byte := w.extractLsb' 0 8

/-! ## Index operands -/

/-- The index operand with the value that means "none" (section 5, Indices). -/
def noneByte : Byte := 0xFF

/-- A channel number, 0 to 31. -/
def channelOf? (b : Byte) : Option (Fin 32) := if h : b.toNat < 32 then some ⟨b.toNat, h⟩ else none

/-- A plan number, 0 to 15. -/
def planOf? (b : Byte) : Option (Fin 16) := if h : b.toNat < 16 then some ⟨b.toNat, h⟩ else none

/-- A ramp number, 0 to 3. -/
def rampOf? (b : Byte) : Option (Fin 4) := if h : b.toNat < 4 then some ⟨b.toNat, h⟩ else none

/-- A lane number, 0 to 7. -/
def laneOf? (b : Byte) : Option (Fin 8) := if h : b.toNat < 8 then some ⟨b.toNat, h⟩ else none

/-- An index operand that allows "none": `some none` for 0xFF, `none` for a value outside the range. -/
def orNone {n : Nat} (index : Byte → Option (Fin n)) (b : Byte) : Option (Option (Fin n)) :=
  if b = noneByte then some none else (index b).map some

/-- An optional index as a reply byte, 0xFF for none. -/
def indexByte {n : Nat} : Option (Fin n) → Byte
  | none => noneByte
  | some i => byteOf i.val

namespace Machine

/-! ## Role and binding -/

/-- The role of a channel. -/
def Duty.role : Duty → Role
  | .unused => .unused
  | .mainline _ => .mainline
  | .entry _ => .entry
  | .queue _ => .queue
  | .demand _ => .demand
  | .passage _ => .passage

/-- The role codes of section 12.6. -/
def Role.code : Role → Nat
  | .unused => 0
  | .mainline => 1
  | .entry => 2
  | .queue => 3
  | .demand => 4
  | .passage => 5

/-- The binding of a channel as a reply byte. -/
def Duty.bindingByte : Duty → Byte
  | .unused => noneByte
  | .mainline r | .entry r | .queue r => byteOf r.val
  | .demand l | .passage l => byteOf l.val

/-- A binding operand that must name something: checks 4 and 5 of R19. -/
def boundIndex {n : Nat} (index : Byte → Option (Fin n)) (b : Byte) : Except Result (Fin n) :=
  if b = noneByte then .error .badValue
  else match index b with
    | none => .error .badId
    | some i => .ok i

/-- The role and binding operands of DETECTOR CONFIGURE: checks 3, 4 and 5 of R19. -/
def dutyOf (role binding : Byte) : Except Result Duty :=
  match role.toNat with
  | 0 => .ok .unused
  | 1 => (boundIndex rampOf? binding).map .mainline
  | 2 => (boundIndex rampOf? binding).map .entry
  | 3 => (boundIndex rampOf? binding).map .queue
  | 4 => (boundIndex laneOf? binding).map .demand
  | 5 => (boundIndex laneOf? binding).map .passage
  | _ => .error .badValue

/-! ## Numeric operands -/

/-- The operands of PLAN WRITE as numbers. -/
def PlanFields.sent (p : PlanOperands) : PlanFields where
  target := p.target.toNat
  gain := p.gain.toNat
  rateMin := p.rateMin.toNat
  rateMax := p.rateMax.toNat
  rateStart := p.rateStart.toNat
  rateFallback := p.rateFallback.toNat
  maxWait := p.maxWait.toNat
  spillOcc := p.spillOcc.toNat
  spillStep := p.spillStep.toNat
  onOcc := p.onOcc.toNat
  onCount := p.onCount.toNat
  offOcc := p.offOcc.toNat
  offCount := p.offCount.toNat
  offQueue := p.offQueue.toNat

/-- The first clamping step of R48. -/
def PlanFields.clampFirst (p : PlanFields) : PlanFields :=
  { p with
    target := clampTo 50 400 p.target
    gain := clampTo 1 40 p.gain
    rateMin := clampTo 120 1800 p.rateMin
    rateMax := clampTo 240 3600 p.rateMax
    maxWait := clampTo 60 900 p.maxWait
    spillOcc := clampTo 100 1000 p.spillOcc
    spillStep := clampTo 0 600 p.spillStep
    onOcc := clampTo 0 1000 p.onOcc
    onCount := clampTo 1 10 p.onCount
    offOcc := clampTo 0 1000 p.offOcc
    offCount := clampTo 1 30 p.offCount
    offQueue := clampTo 0 50 p.offQueue }

/-- The second clamping step of R48: rate start and rate fallback into the clamped bounds, where these have a range. -/
def PlanFields.clampSecond (p : PlanFields) : PlanFields :=
  if p.rateMin ≤ p.rateMax then
    { p with
      rateStart := clampTo p.rateMin p.rateMax p.rateStart
      rateFallback := clampTo p.rateMin p.rateMax p.rateFallback }
  else p

/-- The candidate plan of R48. -/
def PlanFields.candidate (p : PlanFields) : PlanFields := p.clampFirst.clampSecond

/-- The structural check of R49. -/
def PlanFields.sound (p : PlanFields) : Bool := p.rateMin ≤ p.rateMax && p.offOcc < p.onOcc

/-- The numeric operands of RAMP CONFIGURE. -/
structure RampSettings where
  interval   : Nat
  capacity   : Nat
  position   : Nat
  emptyCheck : Nat
  queueCheck : Nat
  holdOff    : Nat
  deriving DecidableEq, Repr

/-- The clamping of R33 and R61: the queue position into 1 up to the capacity just clamped. -/
def RampSettings.clamp (p : RampSettings) : RampSettings where
  interval := clampTo 20 120 p.interval
  capacity := clampTo 5 250 p.capacity
  position := clampTo 1 (clampTo 5 250 p.capacity) p.position
  emptyCheck := clampTo 5 60 p.emptyCheck
  queueCheck := clampTo 5 60 p.queueCheck
  holdOff := clampTo 0 900 p.holdOff

/-- The five timings of a lane. -/
structure LaneTimings where
  green      : Nat
  amber      : Nat
  minRed     : Nat
  startAmber : Nat
  flushGreen : Nat
  deriving DecidableEq, Repr

/-- The clamping of R128. -/
def LaneTimings.clamp (p : LaneTimings) : LaneTimings where
  green := clampTo 10 40 p.green
  amber := clampTo 10 40 p.amber
  minRed := clampTo 15 300 p.minRed
  startAmber := clampTo 30 150 p.startAmber
  flushGreen := clampTo 50 1200 p.flushGreen

/-- The timings a lane holds. -/
def Lane.timings (l : Lane) : LaneTimings where
  green := l.greenTime
  amber := l.amberTime
  minRed := l.minRed
  startAmber := l.startAmber
  flushGreen := l.flushGreen

/-- The four timing operands of DETECTOR CONFIGURE (settle in 10 ms units). -/
structure ChannelTimings where
  settle  : Nat
  stuckOn : Nat
  silent  : Nat
  chatter : Nat
  deriving DecidableEq, Repr

/-- The clamping of R19. -/
def ChannelTimings.clamp (p : ChannelTimings) : ChannelTimings where
  settle := clampTo 0 10 p.settle
  stuckOn := clampTo 1 30 p.stuckOn
  silent := clampTo 0 120 p.silent
  chatter := clampTo 3 20 p.chatter

/-- The result of a request that passed its checks: CLAMPED if clamping changed an operand, else OK (R171). -/
def clampedIf (changed : Bool) : Result := if changed then .clamped else .ok

end Machine

end Sys2Proof
end

