-- ==== Sys2Proof/WellFormed.lean ====
section
/-! DEFINITION. Which terms of `Instr` are commands of the part. -/

namespace Sys2Proof

/-- The opcodes of the table of section 12.5. -/
def knownOpcodes : List Byte :=
  [0x01, 0x02, 0x03, 0x04, 0x05, 0x06, 0x07, 0x08,
   0x10, 0x11, 0x12, 0x13, 0x14,
   0x20, 0x21, 0x22,
   0x30, 0x31, 0x32, 0x33, 0x34, 0x35, 0x36, 0x37, 0x38, 0x39, 0x3A,
   0x40, 0x41, 0x42, 0x43, 0x44,
   0x50, 0x51, 0x52, 0x53]

/-- Every operand is bounded by its type, so one check is left: BAD_OPCODE stands for a byte that is not in the
opcode table (R170). -/
def Instr.wellFormed : Instr → Bool
  | .badOpcode op => !knownOpcodes.contains op
  | _ => true

end Sys2Proof
end

