-- ==== Sys2Proof/Decode.lean ====
section
/-! DEFINITION. What a word of the opcode table spells (no row gives bits), and the frames of the command link: the bytes
of section 12.5, read and written. -/

namespace Sys2Proof

/-- The command a word of the opcode table spells: no row of the table gives bits, so none. -/
def decodeTableWord (_nbits _w : Nat) : Option Instr := none

/-- The fourteen fields of PLAN WRITE from the 24 bytes after the plan number (section 4.1). -/
def decodePlan : List Byte → Option PlanOperands
  | a0 :: a1 :: b :: c0 :: c1 :: d0 :: d1 :: e0 :: e1 :: f0 :: f1 :: g0 :: g1 :: h0 :: h1 :: i0 :: i1
      :: j0 :: j1 :: k :: l0 :: l1 :: m :: n :: _ =>
    some
      { target := halfOf a0 a1, gain := b, rateMin := halfOf c0 c1, rateMax := halfOf d0 d1
        rateStart := halfOf e0 e1, rateFallback := halfOf f0 f1, maxWait := halfOf g0 g1
        spillOcc := halfOf h0 h1, spillStep := halfOf i0 i1, onOcc := halfOf j0 j1, onCount := k
        offOcc := halfOf l0 l1, offCount := m, offQueue := n }
  | _ => none

/-- The request of a known opcode with the operand bytes that follow it; none while operand bytes are missing (R167).
Bytes after the last operand byte are ignored. -/
def decodeOperands (opcode : Nat) (bytes : List Byte) : Option Instr :=
  match opcode, bytes with
  | 0x01, _ => some .readCaps
  | 0x02, _ => some .readStatus
  | 0x03, token :: _ => some (.keepalive token)
  | 0x04, enable :: t1 :: hi :: lo :: _ => some (.supervisionSet enable t1 (halfOf hi lo))
  | 0x05, kind :: _ => some (.setLock kind)
  | 0x06, _ => some .clearCauses
  | 0x07, _ => some .restartArm
  | 0x08, _ => some .restart
  | 0x10, channel :: role :: binding :: settle :: stuckOn :: silent :: chatter :: _ =>
    some (.detectorConfigure channel role binding settle stuckOn silent chatter)
  | 0x11, channel :: _ => some (.detectorRead channel)
  | 0x12, channel :: _ => some (.detectorPark channel)
  | 0x13, channel :: _ => some (.detectorUnpark channel)
  | 0x14, channel :: _ => some (.detectorRestore channel)
  | 0x20, plan :: fields => (decodePlan fields).map (.planWrite plan)
  | 0x21, plan :: _ => some (.planRead plan)
  | 0x22, plan :: _ => some (.planRetire plan)
  | 0x30, ramp :: interval :: capacity :: queuePos :: emptyCheck :: queueCheck :: hi :: lo :: _ =>
    some (.rampConfigure ramp interval capacity queuePos emptyCheck queueCheck (halfOf hi lo))
  | 0x31, ramp :: _ => some (.rampRead ramp)
  | 0x32, ramp :: plan :: _ => some (.rampPlan ramp plan)
  | 0x33, ramp :: _ => some (.rampStart ramp)
  | 0x34, ramp :: _ => some (.rampStop ramp)
  | 0x35, ramp :: minutes :: _ => some (.rampSuspend ramp minutes)
  | 0x36, ramp :: _ => some (.rampResume ramp)
  | 0x37, ramp :: hi :: lo :: minutes :: _ => some (.rampOverride ramp (halfOf hi lo) minutes)
  | 0x38, ramp :: _ => some (.rampOverrideCancel ramp)
  | 0x39, ramp :: _ => some (.rampClose ramp)
  | 0x3A, ramp :: mode :: _ => some (.rampMode ramp mode)
  | 0x40, lane :: ramp :: green :: amber :: r1 :: r0 :: startAmber :: f1 :: f0 :: _ =>
    some (.laneConfigure lane ramp green amber (halfOf r1 r0) startAmber (halfOf f1 f0))
  | 0x41, lane :: _ => some (.laneRead lane)
  | 0x42, lane :: _ => some (.laneEnable lane)
  | 0x43, lane :: _ => some (.laneDisable lane)
  | 0x44, lane :: _ => some (.laneRestore lane)
  | 0x50, _ => some .faultRead
  | 0x51, hi :: lo :: _ => some (.faultClear (halfOf hi lo))
  | 0x52, hi :: lo :: _ => some (.alertMask (halfOf hi lo))
  | 0x53, qualify :: recheckN :: _ => some (.lampSettings qualify recheckN)
  | _, _ => none

/-- What the bytes received since the fall of CS_N spell (R167, R170): a request once its last operand byte is complete,
BAD_OPCODE at an opcode byte that is not in the table, and nothing while bytes are missing. -/
def decodeFrame : List Byte → Option Instr
  | [] => none
  | opcode :: bytes =>
    if knownOpcodes.contains opcode then decodeOperands opcode.toNat bytes else some (.badOpcode opcode)

/-- The two bytes of a two-byte operand, most significant first. -/
def halfBytes (w : Half) : List Byte := [hiByte w, loByte w]

/-- The 24 bytes of the fourteen fields of PLAN WRITE (section 4.1). -/
def encodePlan (p : PlanOperands) : List Byte :=
  halfBytes p.target ++ [p.gain] ++ halfBytes p.rateMin ++ halfBytes p.rateMax ++ halfBytes p.rateStart
  ++ halfBytes p.rateFallback ++ halfBytes p.maxWait ++ halfBytes p.spillOcc ++ halfBytes p.spillStep
  ++ halfBytes p.onOcc ++ [p.onCount] ++ halfBytes p.offOcc ++ [p.offCount, p.offQueue]

/-- The bytes of the frame that carries a request (section 12.5); an event of the part is no frame. -/
def encodeFrame : Instr → Option (List Byte)
  | .readCaps => some [0x01]
  | .readStatus => some [0x02]
  | .keepalive token => some [0x03, token]
  | .supervisionSet enable t1 t2 => some ([0x04, enable, t1] ++ halfBytes t2)
  | .setLock kind => some [0x05, kind]
  | .clearCauses => some [0x06]
  | .restartArm => some [0x07]
  | .restart => some [0x08]
  | .badOpcode opcode => some [opcode]
  | .detectorConfigure channel role binding settle stuckOn silent chatter =>
    some [0x10, channel, role, binding, settle, stuckOn, silent, chatter]
  | .detectorRead channel => some [0x11, channel]
  | .detectorPark channel => some [0x12, channel]
  | .detectorUnpark channel => some [0x13, channel]
  | .detectorRestore channel => some [0x14, channel]
  | .planWrite plan fields => some ([0x20, plan] ++ encodePlan fields)
  | .planRead plan => some [0x21, plan]
  | .planRetire plan => some [0x22, plan]
  | .rampConfigure ramp interval capacity queuePos emptyCheck queueCheck holdOff =>
    some ([0x30, ramp, interval, capacity, queuePos, emptyCheck, queueCheck] ++ halfBytes holdOff)
  | .rampRead ramp => some [0x31, ramp]
  | .rampPlan ramp plan => some [0x32, ramp, plan]
  | .rampStart ramp => some [0x33, ramp]
  | .rampStop ramp => some [0x34, ramp]
  | .rampSuspend ramp minutes => some [0x35, ramp, minutes]
  | .rampResume ramp => some [0x36, ramp]
  | .rampOverride ramp rate minutes => some ([0x37, ramp] ++ halfBytes rate ++ [minutes])
  | .rampOverrideCancel ramp => some [0x38, ramp]
  | .rampClose ramp => some [0x39, ramp]
  | .rampMode ramp mode => some [0x3A, ramp, mode]
  | .laneConfigure lane ramp green amber minRed startAmber flush =>
    some ([0x40, lane, ramp, green, amber] ++ halfBytes minRed ++ [startAmber] ++ halfBytes flush)
  | .laneRead lane => some [0x41, lane]
  | .laneEnable lane => some [0x42, lane]
  | .laneDisable lane => some [0x43, lane]
  | .laneRestore lane => some [0x44, lane]
  | .faultRead => some [0x50]
  | .faultClear mask => some (0x51 :: halfBytes mask)
  | .alertMask mask => some (0x52 :: halfBytes mask)
  | .lampSettings qualify recheckN => some [0x53, qualify, recheckN]
  | .commandRestart | .powerUpReset | .pinReset | .clockLossReset | .frameBegin | .shortFrame => none
  | .actuation _ | .qualifiedFallingEdge _ | .acquisition _ | .stuckOnExpiry _ | .silenceExpiry _ => none
  | .chatterWindowEnd _ | .queueCorrection _ | .emptyCorrection _ | .intervalClose _ | .overrideExpiry _ => none
  | .suspensionExpiry _ | .holdOffEnd _ | .grant _ | .provingClear _ | .provingWindowEnd _ => none
  | .startAmberExpiry _ | .minRedExpiry _ | .greenExpiry _ | .amberExpiry _ | .flushExpiry _ => none
  | .senseSettleEnd _ | .redSuspectOnset _ | .redRecheck _ | .conflictQualified _ | .auxLampOut _ => none
  | .supplyLoss | .supplyReturn | .stage1Onset | .stage2Onset | .resetEnd => none
  | .detectorInputChange _ _ | .lampSenseChange _ _ _ _ | .lampSupplyInputChange _ => none

end Sys2Proof
end

