-- ==== Sys2Proof/Machine/State.lean ====
section
/-! DEFINITION. The state of the Vicmerra 408, the reasons a step can stop, and the state after reset. -/

namespace Sys2Proof.Machine

/-- The whole state of the part: its records (Sys2Proof/Machine/Records.lean), the phase of the 100 ms tick, and the
queue of the commands that wait. -/
structure State where
  channels : Vector Channel 32
  plans    : Vector Plan 16
  ramps    : Vector Ramp 4
  lanes    : Vector Lane 8
  lamp     : LampUnit
  faults   : FaultRegister
  sup      : Supervision
  locks    : Locks
  unit     : ResetUnit
  link     : Link
  /-- 10 ms samples since the last 100 ms tick, 0 to 9 -/
  tickPhase : Nat
  /-- THE MODEL'S OWN FIELD: how many choices between events falling together have been made, the argument of the
  free value `Config.arbiter` -/
  choices  : Nat
  /-- the commands that wait, first in, first out -/
  pending  : List Instr
  deriving DecidableEq, Repr

/-- The reasons a step can fault. There is none: the manual gives every command an effect in every state (a refusal of
chapter 12 is a result code and a next state). -/
inductive Fault where
  deriving DecidableEq, Repr

/-- The reasons a step can be refused. -/
inductive Refusal where
  /-- An arm of `exec` whose command has no meaning yet. No arm uses it: every command is modelled. Safe. -/
  | notModelled (mnemonic : String)
  /-- `execBadOpcode` only: BAD_OPCODE was given an opcode that is in the opcode table, so the term is no command of the
  part (`Instr.wellFormed` refuses it). Safe: the model stops where the hardware has no such step. -/
  | opcodeKnown
  deriving DecidableEq, Repr

/-- The machine right after a power-up reset has ended, with nothing driven on its pins: every record at its full-reset
value (R1, R47, R59, R110, R133, R148, R157, R162), uptime 0 and the cause POWER (R163, R164), no frame in progress
(R169). The levels of the input pins are DESIGN CHOICE (notes/assumptions/1.md). -/
def State.reset : State where
  channels := Vector.replicate 32 (Channel.fullReset false)
  plans := Vector.replicate 16 Plan.free
  ramps := Vector.replicate 4 Ramp.fullReset
  lanes := Vector.replicate 8 (Lane.fullReset Lamps.dark)
  lamp := LampUnit.fullReset false
  faults := FaultRegister.reset
  sup := Supervision.fullReset
  locks := { supervision := false, timing := false }
  unit :=
    { armed := false, restartPending := false, inReset := ResetKinds.none,
      causes := { power := true, pin := false, clock := false, command := false },
      uptime := 0, uptimeRun := 0 }
  link := Link.start .idle
  tickPhase := 0
  choices := 0
  pending := []

end Sys2Proof.Machine
end

