-- ==== Sys2Proof/Machine/Flags.lean ====
section
/-! DEFINITION. The flags of the Fault Register and the line they drive (chapter 10), and the reset-cause flags
(R164). -/

namespace Sys2Proof.Machine

/-- The place of a kind in the order of the kinds, from 0: its number less one. -/
def FaultKind.place : FaultKind → Fin 13
  | .detStuckOn => 0
  | .detSilent => 1
  | .detChatter => 2
  | .mainlineLost => 3
  | .queueSpill => 4
  | .conflict => 5
  | .redLampOut => 6
  | .outputStuck => 7
  | .auxLampOut => 8
  | .lampTransient => 9
  | .supplyLoss => 10
  | .hostLost => 11
  | .autoChange => 12

/-- The number of a kind, 1 to 13 (section 10.1). -/
def FaultKind.number (k : FaultKind) : Nat := k.place.val + 1

/-- The word with the bit of a kind set. -/
def FaultKind.bitWord (k : FaultKind) : BitVec 16 := BitVec.ofNat 16 (2 ^ k.number)

/-- The capturing kinds (section 10.1): all but QUEUE_SPILL, LAMP_TRANSIENT and AUTO_CHANGE. -/
def FaultKind.capturing : FaultKind → Bool
  | .queueSpill | .lampTransient | .autoChange => false
  | _ => true

/-- The codes of the object classes (section 12.6). -/
def ObjectClass.code : ObjectClass → Nat
  | .detector => 1
  | .lane => 2
  | .ramp => 3
  | .part => 4

/-- The bits that name kinds: 1 to 13. -/
def kindBits : BitVec 16 := 0x3FFE

/-- Whether the flag of a kind is set. -/
def FaultRegister.flag (f : FaultRegister) (k : FaultKind) : Bool := f.flags.getLsbD k.number

/-- The count of a kind. -/
def FaultRegister.countOf (f : FaultRegister) (k : FaultKind) : Nat := f.counts[k.place]

/-- A mask word names a kind. -/
def maskHas (mask : BitVec 16) (k : FaultKind) : Bool := mask.getLsbD k.number

/-- The first-fault record and further-faults at an onset of a capturing kind (R150). -/
def FaultRegister.capture (record : FaultRecord) (f : FaultRegister) : FaultRegister :=
  match f.first with
  | none => { f with first := some record }
  | some _ => { f with further := true }

/-- An onset taken by the register: flag, count, and for a capturing kind the record (R149, R150). -/
def FaultRegister.onset (record : FaultRecord) (f : FaultRegister) : FaultRegister :=
  let counted :=
    { f with
      flags := f.flags ||| record.kind.bitWord
      counts := f.counts.set record.kind.place (satAdd 255 f.counts[record.kind.place]) }
  if record.kind.capturing then counted.capture record else counted

/-- FAULT CLEAR's effect on the register (R152). -/
def FaultRegister.clear (mask : BitVec 16) (f : FaultRegister) : FaultRegister :=
  let cleared :=
    { f with
      flags := f.flags &&& ~~~mask
      counts := Vector.ofFn fun i : Fin 13 => if mask.getLsbD (i.val + 1) then 0 else f.counts[i] }
  match f.first with
  | some record => if maskHas mask record.kind then { cleared with first := none, further := false } else cleared
  | none => cleared

/-- The kinds of a 16-bit mask operand; bits 0, 14 and 15 name none (R152, R154). -/
def kindMask (mask : Half) : BitVec 16 := mask &&& kindBits

/-- A kind is both in the alert mask and flagged (R155). -/
def FaultRegister.alerting (f : FaultRegister) : Bool := f.flags &&& f.mask != 0

/-- A full reset is in progress. -/
def ResetKinds.any (k : ResetKinds) : Bool := k.power || k.pin || k.clock

/-- The part is in a full reset (R163). -/
def State.resetting (s : State) : Bool := s.unit.inReset.any

/-- ALERT_N is driven low (R155): never during a reset. -/
def State.alertLow (s : State) : Bool := !s.resetting && s.faults.alerting

/-- An onset reported to the Fault Register, stamped with the uptime (R149, R150). -/
def raise (kind : FaultKind) (object : ObjectClass) (index detail : Nat) (s : State) : State :=
  { s with
    faults := s.faults.onset
      { kind := kind, object := object, index := index, detail := detail, uptime := s.unit.uptime } }

/-- The reset-cause flags that a full reset leaves: POWER alone if it included a power-up, else those held and the
kinds it included (R164). -/
def Causes.after (kinds : ResetKinds) (c : Causes) : Causes :=
  if kinds.power then { power := true, pin := false, clock := false, command := false }
  else { c with pin := c.pin || kinds.pin, clock := c.clock || kinds.clock }

end Sys2Proof.Machine
end

