-- ==== Sys2Proof/Machine/Rates.lean ====
section
/-! DEFINITION. The arithmetic of the Rate Unit (chapter 6) and of Station Measurement (R24, R25). -/

namespace Sys2Proof.Machine

/-- The headway of a final rate, in ds: 36 000 divided by it, rounded up (R92). -/
def headwayOf (final : Nat) : Nat := ceilDiv 36000 final

/-- The shortest cycle of a lane, in ds (R82). -/
def Lane.cycle (l : Lane) : Nat := l.greenTime + l.amberTime + l.minRed

/-- The capacity of a lane, in veh/h (R82). -/
def Lane.capacity (l : Lane) : Nat := 36000 / l.cycle

/-- The final rate with the headway formed from it at the same moment (R92, R94). -/
def Rate.setFinal (final : Nat) (decision : Decision) (r : Rate) : Rate :=
  { r with final := final, headway := headwayOf final, decision := decision }

/-- The five stage fields at 0, as at a start and under an override (R84, R91). -/
def Rate.clearStages (r : Rate) : Rate :=
  { r with e := 0, r1 := 0, r2 := 0, rWait := 0, rSpill := 0 }

/-- A ceiling formed anew, `running` telling whether the ramp is METERING or SUSPENDED (R83). -/
def Rate.newCeiling (running : Bool) (ceiling : Nat) (r : Rate) : Rate :=
  let recorded := { r with ceiling := ceiling }
  if running && 1 ≤ ceiling && ceiling < r.final then recorded.setFinal ceiling .cap else recorded

/-- The rate at a start (R84). -/
def Rate.atStart (rateStart : Nat) (r : Rate) : Rate :=
  (r.setFinal (min rateStart r.ceiling) .start).clearStages

/-- The rate under an override: never below 94 (R91). -/
def Rate.atOverride (rate : Nat) (r : Rate) : Rate :=
  (r.setFinal (max 94 (min rate r.ceiling)) .override).clearStages

/-- A signed rate brought into the plan's bounds (R87). -/
def clampRate (lo hi : Nat) (x : Int) : Nat :=
  if x < lo then lo else if (hi : Int) < x then hi else x.toNat

/-- The error e: target less station occupancy, 0 when the mainline is LOST (R86). -/
def errorOf (p : PlanFields) (st : Station) : Int :=
  if st.valid then (p.target : Int) - st.occupancy else 0

/-- r1: the feedback rate, or the fallback rate when the mainline is LOST (R86). -/
def feedbackOf (p : PlanFields) (st : Station) (previous : Nat) : Int :=
  if st.valid then (previous : Int) + p.gain * errorOf p st else p.rateFallback

/-- The waiting-time floor (R88). -/
def waitFloor (maxWait stored : Nat) : Nat :=
  if stored = 0 then 0 else ceilDiv (stored * 3600) maxWait

/-- The spill floor (R89). -/
def spillFloor (spill : Bool) (previous step : Nat) : Nat := if spill then previous + step else 0

/-- The decision code of a computing close (R93). -/
def decisionOf (p : PlanFields) (valid : Bool) (r1 : Int) (r2 rWait rSpill ceiling : Nat) : Decision :=
  let r3 := max r2 (max rWait rSpill)
  if ceiling < r3 then .cap
  else if r2 < r3 then (if rSpill = r3 then .spill else .wait)
  else if r1 < p.rateMin then .min
  else if (p.rateMax : Int) < r1 then .max
  else if valid then .feedback
  else .fallback

/-- Stages 1 to 4 and 6 of a computing close without an override (R85 to R90, R92, R93). -/
def Rate.compute (p : PlanFields) (st : Station) (stored : Nat) (spill : Bool) (r : Rate) : Rate :=
  let r1 := feedbackOf p st r.final
  let r2 := clampRate p.rateMin p.rateMax r1
  let rWait := waitFloor p.maxWait stored
  let rSpill := spillFloor spill r.final p.spillStep
  let r3 := max r2 (max rWait rSpill)
  let final := min r3 r.ceiling
  { final := final
    headway := headwayOf final
    decision := decisionOf p st.valid r1 r2 rWait rSpill r.ceiling
    e := errorOf p st
    r1 := r1
    r2 := r2
    rWait := rWait
    rSpill := rSpill
    ceiling := r.ceiling }

/-- The mean of `n` latched occupancies with sum `sum`, rounded half up (R24). -/
def meanHalfUp (sum n : Nat) : Nat := (2 * sum + n) / (2 * n)

/-- The station flow of `count` vehicles in an interval of `interval` seconds (R25). -/
def flowOf (count interval : Nat) : Nat := min 65535 (count * 3600 / interval)

/-- Station Measurement at a close: `n` station channels, the sums of their latched occupancies and counts, and the
interval (R23 to R25, R27, R28). -/
def Station.formed (n sumOcc sumCount interval : Nat) (st : Station) : Station :=
  if n = 0 then { st with valid := false, size := 0 }
  else { valid := true, occupancy := meanHalfUp sumOcc n, flow := flowOf sumCount interval, size := n }

end Sys2Proof.Machine
end

