-- ==== Sys2Proof/Machine/Ops.lean ====
section
/-! DEFINITION. The named operations over the records, shared by the meanings: access, what is derived from several
records (able lanes, demand, exit source, watched channels), the entry of a lane to a state, the changes of a ramp's
state, and how a command from the host or an event is taken. -/

namespace Sys2Proof.Machine

/-! ## Access -/

def State.chan (s : State) (c : Fin 32) : Channel := s.channels[c]
def State.plan (s : State) (p : Fin 16) : Plan := s.plans[p]
def State.ramp (s : State) (r : Fin 4) : Ramp := s.ramps[r]
def State.lane (s : State) (l : Fin 8) : Lane := s.lanes[l]

def State.setChan (s : State) (c : Fin 32) (x : Channel) : State := { s with channels := s.channels.set c x }
def State.setPlan (s : State) (p : Fin 16) (x : Plan) : State := { s with plans := s.plans.set p x }
def State.setRamp (s : State) (r : Fin 4) (x : Ramp) : State := { s with ramps := s.ramps.set r x }
def State.setLane (s : State) (l : Fin 8) (x : Lane) : State := { s with lanes := s.lanes.set l x }

def State.modChan (s : State) (c : Fin 32) (f : Channel → Channel) : State := s.setChan c (f (s.chan c))
def State.modRamp (s : State) (r : Fin 4) (f : Ramp → Ramp) : State := s.setRamp r (f (s.ramp r))
def State.modLane (s : State) (l : Fin 8) (f : Lane → Lane) : State := s.setLane l (f (s.lane l))

def State.mapChans (s : State) (f : Fin 32 → Channel → Channel) : State :=
  { s with channels := Vector.ofFn fun c => f c (s.chan c) }
def State.mapRamps (s : State) (f : Fin 4 → Ramp → Ramp) : State :=
  { s with ramps := Vector.ofFn fun r => f r (s.ramp r) }
def State.mapLanes (s : State) (f : Fin 8 → Lane → Lane) : State :=
  { s with lanes := Vector.ofFn fun l => f l (s.lane l) }

def State.modCtl (s : State) (r : Fin 4) (f : RampControl → RampControl) : State :=
  s.modRamp r fun x => { x with ctl := f x.ctl }
def State.modQueue (s : State) (r : Fin 4) (f : Queue → Queue) : State :=
  s.modRamp r fun x => { x with queue := f x.queue }
def State.modSched (s : State) (r : Fin 4) (f : Scheduler → Scheduler) : State :=
  s.modRamp r fun x => { x with sched := f x.sched }

/-- The state of a ramp. -/
def State.rampState (s : State) (r : Fin 4) : RampState := (s.ramp r).ctl.state

/-! ## Detector channels -/

/-- The channel is ACTIVE. -/
def Channel.isActive (c : Channel) : Bool := c.state = .active

/-- The channel is FAULTED. -/
def Channel.isFaulted (c : Channel) : Bool :=
  match c.state with
  | .faulted _ => true
  | _ => false

/-- The bound ramp of a duty: its own, or that of the bound lane (R3). -/
def State.rampOfDuty (s : State) : Duty → Option (Fin 4)
  | .unused => none
  | .mainline r | .entry r | .queue r => some r
  | .demand l | .passage l => (s.lane l).ramp

/-- The bound ramp of a channel (R3). -/
def State.boundRamp (s : State) (c : Fin 32) : Option (Fin 4) := s.rampOfDuty (s.chan c).duty

/-- The channels that meet a condition. -/
def State.chansWhere (s : State) (p : Channel → Bool) : List (Fin 32) :=
  (List.finRange 32).filter fun c => p (s.chan c)

/-- Some ACTIVE channel has the duty. -/
def State.someActive (s : State) (d : Duty) : Bool :=
  (List.finRange 32).any fun c => (s.chan c).duty = d && (s.chan c).isActive

/-- The demand of a lane (R18). -/
def State.demand (s : State) (l : Fin 8) : Bool :=
  (List.finRange 32).any (fun c => (s.chan c).duty = .demand l && (s.chan c).isFaulted)
    || !s.someActive (.demand l)
    || (List.finRange 32).any
        (fun c => (s.chan c).duty = .demand l && (s.chan c).isActive && (s.chan c).occupied)

/-- The exit source of a lane is PASSAGE; else it is GRANT (R36). -/
def State.exitPassage (s : State) (l : Fin 8) : Bool := s.someActive (.passage l)

/-- Every dynamic field at its full-reset value and the working items cleared (section 1.1), with the queue timer and
the served mark (R40). -/
def Channel.zeroDynamic (c : Channel) : Channel :=
  { c with
    occupied := false, onTime := 0, count := 0
    latchedOnTime := 0, latchedCount := 0, latchedOcc := 0, latchedValid := false
    continuousOn := 0, silence := 0, windowCount := 0
    qualification := 0, acquiring := false, periodMark := false, windowPhase := 0
    queueTimer := 0, served := false }

/-- Entry to ACTIVE with acquisition (R5). -/
def Channel.activate (c : Channel) : Channel :=
  { c.zeroDynamic with state := .active, acquiring := true }

/-- Entry to FAULTED: the qualification timer stops, the period mark clears, all else is held (R14); the queue timer
and the served mark go, as at every leaving of ACTIVE (R40). DESIGN CHOICE (notes/assumptions/13.md): a stopped
qualification timer stands at 0. -/
def Channel.fail (kind : ChannelFault) (c : Channel) : Channel :=
  { c with
    state := .faulted kind
    qualification := 0, periodMark := false, queueTimer := 0, served := false }

/-- The latch of a period of `interval` seconds (R8, R9). -/
def Channel.latch (interval : Nat) (c : Channel) : Channel :=
  { c with
    latchedOnTime := c.onTime
    latchedCount := c.count
    latchedOcc := c.onTime * 10 / interval
    latchedValid := c.periodMark
    onTime := if c.isFaulted then c.onTime else 0
    count := if c.isFaulted then c.count else 0
    periodMark := c.isActive }

/-! ## Lanes -/

/-- The aspect of a lane state (section 8.3). -/
def LaneState.aspect : LaneState → Aspect
  | .starting | .amber => .amber
  | .redMin | .redReady => .red
  | .green | .resting | .flush => .green
  | .dark | .proving | .supplyOut | .faultLocked _ => .none

/-- The aspect a lane commands: none while it is unbound (R113). -/
def Lane.aspect (l : Lane) : Aspect := if l.ramp.isSome then l.state.aspect else .none

/-- The lane is FAULT_LOCKED. -/
def Lane.isLocked (l : Lane) : Bool :=
  match l.state with
  | .faultLocked _ => true
  | _ => false

/-- DARK or FAULT_LOCKED (R67). -/
def Lane.isOut (l : Lane) : Bool := l.state = .dark || l.isLocked

/-- The lane shows red: RED_MIN or RED_READY. -/
def Lane.isRed (l : Lane) : Bool := l.state.aspect = .red

/-- The lane is in a lit state (section 8.3). -/
def Lane.isLit (l : Lane) : Bool := l.state.aspect ≠ .none

/-- The able property (R112). -/
def Lane.able (l : Lane) : Bool := l.ramp.isSome && l.inService && !l.leaving && !l.isLocked

/-- The duration of a state's timer, in ds (R114). -/
def Lane.duration (l : Lane) : LaneState → Nat
  | .proving => 30
  | .starting => l.startAmber
  | .redMin => l.minRed
  | .green => l.greenTime
  | .amber => l.amberTime
  | .flush => l.flushGreen
  | _ => 0

/-- The lane enters `st`, with every effect of the entry on its own record: the state timer (R114), the settle timer at
a change of aspect (R134), the end of a red suspicion when it leaves red (R122, R124 to R126, R141), the aux mark
(R142), the conflict timer and its mark in SUPPLY_OUT (R136, R138), the proving state (R135), and the end of leaving in DARK and
FAULT_LOCKED (R124, R126). -/
def Lane.enter (st : LaneState) (l : Lane) : Lane :=
  let red : Bool := st.aspect = .red
  let out : Bool := match st with | .dark | .faultLocked _ => true | _ => false
  let clearsAux : Bool :=
    match st with | .starting | .green | .amber | .resting | .flush => true | _ => false
  { l with
    state := st
    timer := l.duration st
    settle := if st.aspect = l.state.aspect then l.settle else some 30
    redSuspect := l.redSuspect && red
    recheck := if red then l.recheck else 0
    auxMark := l.auxMark && !clearsAux
    conflict := if st = .supplyOut then 0 else l.conflict
    conflictMark := if st = .supplyOut then .dropped else l.conflictMark
    conflictBefore := if st = .supplyOut then 0 else l.conflictBefore
    markBefore := if st = .supplyOut then .counting else l.markBefore
    clearRun := 0
    seen := .dark
    provingLeft := if st = .proving then 300 else 0
    leaving := l.leaving && !out
    inService := l.inService && !(l.leaving && out) }

/-- The stop path of R123. -/
def Lane.stopPath (l : Lane) : Lane :=
  match l.state with
  | .proving | .starting | .supplyOut => l.enter .dark
  | .redReady | .green | .resting => l.enter .flush
  | .dark | .redMin | .amber | .flush | .faultLocked _ => l

/-- A DARK lane that is bound, in service and not leaving lights on a METERING ramp (R115). -/
def Lane.light (supply : Bool) (l : Lane) : Lane :=
  if l.state = .dark && l.able then l.enter (if supply then .proving else .supplyOut) else l

/-- A conflict condition is met by the lane's sense levels (R136). -/
def Lane.conflictMet (l : Lane) : Bool :=
  l.ramp.isSome && l.state ≠ .supplyOut && l.sense.green && (l.aspect ≠ .green || l.sense.red)

/-- The detail of a conflict that the lane's sense levels show under the aspect it commands: 1 when green is not commanded,
else 2 (R136). -/
def Lane.conflictDetail (l : Lane) : Nat := if l.aspect ≠ .green then 1 else 2

/-- A conflict was reached at the last sample and has not been taken. -/
def ConflictMark.isReached : ConflictMark → Bool
  | .reached _ => true
  | .counting | .taken | .dropped => false

/-- The detail of the conflict that can be taken on the lane, if one can: the one reached at the last sample, whatever the
levels show under an aspect commanded since (R106, R138), or else, when its event is commanded before the timer has counted
to the qualify time (notes/assumptions/4.md), the one the levels show. DESIGN CHOICE (notes/assumptions/19.md): a conflict
taken after a grant of the same moment is reported with the detail of its qualifying sample. DESIGN CHOICE
(notes/assumptions/20.md): a conflict reached at a sample is taken also when LAMP SETTINGS, at the same moment and taken first,
has raised the qualify time above the timer (R136 and R146 do not say). A loss of the lamp supply taken first leaves no conflict
on a lane that it takes through SUPPLY_OUT, also when the lane goes on to DARK (R138). -/
def Lane.conflictTaken? (l : Lane) : Option Nat :=
  match l.conflictMark with
  | .reached detail => some detail
  | .counting => if l.conflictMet then some l.conflictDetail else none
  | .taken | .dropped => none

/-- The member lanes of a ramp, in the order of their numbers. -/
def State.members (s : State) (r : Fin 4) : List (Fin 8) :=
  (List.finRange 8).filter fun l => (s.lane l).ramp = some r

/-- The able lanes of a ramp (section 5.2). -/
def State.ableLanes (s : State) (r : Fin 4) : List (Fin 8) := (s.members r).filter fun l => (s.lane l).able

/-- The member lanes of a ramp taken through a change of lane. -/
def State.mapMembers (s : State) (r : Fin 4) (f : Lane → Lane) : State :=
  s.mapLanes fun _ l => if l.ramp = some r then f l else l

/-- The rate ceiling of R82. -/
def State.ceilingOf (s : State) (r : Fin 4) : Nat :=
  min 3600 ((s.ableLanes r).map fun l => (s.lane l).capacity).sum

/-! ## The waiting list and the empty timer -/

/-- The lane meets the conditions of R101 and R102 for its ramp's waiting list. -/
def State.calls (s : State) (r : Fin 4) (l : Fin 8) : Bool :=
  s.rampState r = .metering && (s.lane l).ramp = some r && (s.lane l).state = .redReady
    && !(s.lane l).redSuspect && s.demand l

/-- The waiting list after an event: those who ceased to meet the conditions leave, those who came to meet them join the
tail (R102, R103). DESIGN CHOICE (notes/assumptions/15.md): those that come to meet them in one event join in the order of their
numbers; R102 allows either order. -/
def State.newList (s : State) (r : Fin 4) : List (Fin 8) :=
  let old := (s.ramp r).sched.waiting
  old.filter (s.calls r) ++ (List.finRange 8).filter fun l => s.calls r l && !old.contains l

/-- The channel is watched by the empty correction of the ramp (R42). -/
def State.watches (s : State) (r : Fin 4) (c : Fin 32) : Bool :=
  (s.chan c).isActive &&
    match (s.chan c).duty with
    | .queue r' => r' = r
    | .demand l => (s.lane l).ramp = some r && (s.lane l).able
    | _ => false

/-- Some watched channel's presence is occupied. -/
def State.watchedOccupied (s : State) (r : Fin 4) : Bool :=
  (List.finRange 32).any fun c => s.watches r c && (s.chan c).occupied

/-- The condition under which the empty timer runs (R42). -/
def State.emptyRuns (s : State) (r : Fin 4) : Bool :=
  s.rampState r = .metering
    && (List.finRange 32).any (fun c => s.watches r c && (s.chan c).duty.role = .demand)
    && !s.watchedOccupied r

/-- The empty timer and the armed mark after an event (R42, R43). R43 arms at a watched presence becoming occupied and
names no ramp state; DESIGN CHOICE (notes/assumptions/21.md): outside METERING the mark is not armed, which no reply or
later event can show, since every entry to METERING arms it. -/
def Queue.watch (metering runs occupied : Bool) (q : Queue) : Queue :=
  { q with
    emptyTimer := if runs then q.emptyTimer else 0
    armed := q.armed || (metering && occupied) }

/-- The waiting list, the empty timer and the armed mark of a ramp formed anew after an event of its lanes or channels
(R42, R43, R102, R103). -/
def State.refreshCalls (s : State) (r : Fin 4) : State :=
  s.modRamp r fun x =>
    { x with
      sched := { x.sched with waiting := s.newList r }
      queue := x.queue.watch (s.rampState r = .metering) (s.emptyRuns r) (s.watchedOccupied r) }

/-- Entry-degraded formed anew (R35). -/
def State.formEntryDegraded (s : State) (r : Fin 4) : State :=
  s.modQueue r fun q => { q with entryDegraded := s.rampState r ≠ .closed && !s.someActive (.entry r) }

/-! ## Changes of a ramp's state -/

/-- The queue timers and served marks of the ramp's QUEUE channels start from 0 and clear (R32, R40). -/
def State.clearQueueTimers (s : State) (r : Fin 4) : State :=
  s.mapChans fun _ c => if c.duty = .queue r then { c with queueTimer := 0, served := false } else c

/-- The silence timers of the ramp's ACTIVE channels restart (R12). -/
def State.restartSilence (s : State) (r : Fin 4) : State :=
  s.mapChans fun _ c => if s.rampOfDuty c.duty = some r && c.isActive then { c with silence := 0 } else c

/-- The rate part handed over by the Rate Unit. A headway that changes at the moment at which the ramp entered METERING sets
since-last-grant too, so that the ramp is ready in either order (R100, R107). -/
def Ramp.handRate (rate : Rate) (x : Ramp) : Ramp :=
  { x with
    rate := rate
    sched :=
      if x.sched.fresh && rate.headway ≠ x.rate.headway then { x.sched with sinceGrant := rate.headway } else x.sched }

/-- The rate ceiling formed anew (R83). -/
def State.formCeiling (s : State) (r : Fin 4) : State :=
  s.modRamp r fun x =>
    x.handRate
      (x.rate.newCeiling (s.rampState r = .metering || s.rampState r = .suspended) (s.ceilingOf r))

/-- A METERING or SUSPENDED ramp enters STOPPING (R66), and its lanes take their stop paths (R123). -/
def State.enterStopping (s : State) (r : Fin 4) : State :=
  let ramped := s.modRamp r fun x =>
    { x with
      ctl := { x.ctl with
        state := .stopping, override := none, suspension := none
        holdOff := 0, holdOffRun := 0, onRun := 0, offRun := 0 }
      queue := { x.queue with spill := false, emptyTimer := 0 }
      sched := { x.sched with waiting := [], fresh := false } }
  ramped.mapMembers r Lane.stopPath

/-- Every member lane is DARK or FAULT_LOCKED (R67). -/
def State.allOut (s : State) (r : Fin 4) : Bool := (s.members r).all fun l => (s.lane l).isOut

/-- The entry to STANDBY from STOPPING (R67, R32, R54). -/
def State.enterStandby (s : State) (r : Fin 4) : State :=
  let ramped := s.modRamp r fun x =>
    { x with
      ctl := { x.ctl with
        state := .standby, active := x.ctl.pending.or x.ctl.active, pending := none
        onRun := 0, offRun := 0 }
      queue := { x.queue with stored := 0, spill := false, emptyTimer := 0, armed := false } }
  ramped.clearQueueTimers r

/-- The judgement of R67. -/
def State.standbyIfOut (s : State) (r : Fin 4) : State :=
  if s.rampState r = .stopping && s.allOut r then s.enterStandby r else s

/-- A METERING or SUSPENDED ramp goes to STOPPING, and on to STANDBY if nothing is lit; any other ramp stays. -/
def State.stopRamp (s : State) (r : Fin 4) : State :=
  if s.rampState r = .metering || s.rampState r = .suspended then (s.enterStopping r).standbyIfOut r else s

/-- The ramp stops when its able-lane set has become empty (R68). -/
def State.stopIfUnable (s : State) (r : Fin 4) : State :=
  if (s.ableLanes r).isEmpty then s.stopRamp r else s

/-- What an event of a member lane hands on: the waiting list and the empty timer, the ceiling, the able-lane set and
the judgement of STOPPING (R67, R68, R83, R102, R103, R112). -/
def State.refreshRamp (s : State) (r : Fin 4) : State :=
  ((((s.refreshCalls r).formCeiling r).stopIfUnable r).standbyIfOut r)

/-- `refreshRamp` of the ramp a lane is bound to. -/
def State.refreshOf (s : State) : Option (Fin 4) → State
  | none => s
  | some r => s.refreshRamp r

/-- What a change of a channel's state or binding hands on to the ramp it serves: entry-degraded, demand and the
watched set (R18, R20, R35, R42). -/
def State.hearChannel (s : State) : Option (Fin 4) → State
  | none => s
  | some r => (s.formEntryDegraded r).refreshCalls r

/-- The ramp's lanes that are able to light do so (R115). -/
def State.lightMembers (s : State) (r : Fin 4) : State :=
  s.mapMembers r fun l => l.light s.lamp.present

/-- Conditions 2 to 5 of R64, in their order: `none` when they hold. -/
def State.startBar (s : State) (r : Fin 4) : Option Result :=
  if (s.ramp r).ctl.active.isNone then some .undefined
  else if (s.ableLanes r).isEmpty then some .undefined
  else if (s.members r).any fun l => (s.lane l).state = .faultLocked .conflict then some .lockedOut
  else if s.sup.stage = .two then some .supervision
  else none

/-- The entry to METERING from STANDBY with the rate start of the active plan (R65, R84, R107, R32, R12). -/
def State.enterMetering (s : State) (r : Fin 4) (rateStart : Nat) : State :=
  let ramped := s.modRamp r fun x =>
    let rate := x.rate.atStart rateStart
    { x with
      ctl := { x.ctl with
        state := .metering, override := none, suspension := none
        holdOff := 0, holdOffRun := 0, onRun := 0, offRun := 0 }
      queue := { x.queue with
        stored := 0, spill := false, overflow := 0, slip := 0, corrections := 0
        emptyTimer := 0, armed := true }
      rate := rate
      sched := { waiting := [], sinceGrant := rate.headway, fresh := true } }
  (((ramped.clearQueueTimers r).restartSilence r).lightMembers r).refreshCalls r

/-- The start of a ramp by its active plan (R65). -/
def State.startRamp (s : State) (r : Fin 4) : State :=
  match (s.ramp r).ctl.active with
  | none => s
  | some p => s.enterMetering r (s.plan p).fields.rateStart

/-- The entry to SUSPENDED (R75, R32, R12); the lanes in RED_READY rest at once (R122). -/
def State.enterSuspended (s : State) (r : Fin 4) (minutes : Nat) : State :=
  let ramped := s.modRamp r fun x =>
    { x with
      ctl := { x.ctl with
        state := .suspended, override := none
        suspension := some { minutes := minutes, run := 0 }
        onRun := 0, offRun := 0 }
      queue := { x.queue with stored := 0, spill := false, emptyTimer := 0, armed := false }
      sched := { x.sched with waiting := [], fresh := false } }
  ((ramped.clearQueueTimers r).restartSilence r).mapMembers r fun l =>
    if l.state = .redReady then l.enter .resting else l

/-- The return to METERING from SUSPENDED (R76, R77, R107, R32, R12); the resting lanes go to AMBER (R122) and the DARK
ones leave DARK (R115). -/
def State.resumeRamp (s : State) (r : Fin 4) : State :=
  let ramped := s.modRamp r fun x =>
    { x with
      ctl := { x.ctl with
        state := .metering, suspension := none
        holdOff := x.ctl.suspendHoldOff, holdOffRun := 0 }
      queue := { x.queue with stored := 0, spill := false, emptyTimer := 0, armed := true }
      sched := { x.sched with sinceGrant := x.rate.headway, fresh := true } }
  ((((ramped.clearQueueTimers r).restartSilence r).mapMembers r
      fun l => if l.state = .resting then l.enter .amber else l).lightMembers r).refreshCalls r

/-! ## Mode and supervision stage -/

/-- The effective mode of a ramp (R69). -/
def State.effectiveMode (s : State) (r : Fin 4) : Mode :=
  if s.sup.stage = .present then (s.ramp r).ctl.mode else .auto

/-- The run counters of the ramps whose effective mode differs from the one in `before` become 0 (R69). -/
def State.clearRuns (before s : State) : State :=
  s.mapRamps fun r x =>
    if before.effectiveMode r = s.effectiveMode r then x
    else { x with ctl := { x.ctl with onRun := 0, offRun := 0 } }

/-- The supervision stage returns to 0 (R161). -/
def State.stageReturn (s : State) : State :=
  s.clearRuns { s with sup := { s.sup with stage := .present } }

/-! ## How a request and an event are taken -/

/-- What a request leaves: the state, its result and its reply bytes. -/
structure Served where
  state  : State
  result : Result
  reply  : List Byte

/-- The request is taken with result OK. -/
def accept (s : State) (reply : List Byte := []) : Served := { state := s, result := .ok, reply := reply }

/-- The request is refused and changes nothing. -/
def refuse (s : State) (result : Result) (reply : List Byte := []) : Served :=
  { state := s, result := result, reply := reply }

/-- The request is taken; the result is CLAMPED if clamping changed an operand. -/
def acceptClamped (s : State) (changed : Bool) : Served :=
  { state := s, result := clampedIf changed, reply := [] }

/-- A frame can be received: not during a reset, and not while the frame of an accepted RESTART is still open
(R166, R167). DESIGN CHOICE (notes/assumptions/6.md): while the link waits for CS_N to rise after a reset it can: a request or a
BAD_OPCODE sent then stands for a whole new frame, whose fall the awaited rise has preceded. -/
def State.hears (s : State) : Bool := !s.resetting && !s.unit.restartPending

/-- The frame is complete: the arming mark, and the result and the reply for the host (R165, R167, R168). -/
def Served.finish (armed : Bool) (v : Served) : State :=
  { v.state with
    unit := { v.state.unit with armed := armed }
    link := { v.state.link with phase := .reply, result := some v.result, reply := v.reply } }

/-- A frame that the part does not receive: in a reset its fall of CS_N begins nothing, and the part then waits for CS_N to
rise (R167); while the frame of an accepted RESTART is open, CS_N is low already (R166). -/
def State.missFrame (s : State) : State :=
  if s.resetting then { s with link := { s.link with phase := .waitRise } } else s

/-- A request evaluated at the end of its frame, the open one where a frame is being received (notes/assumptions/6.md);
every complete frame but RESTART ARM leaves the arming mark clear (R165 to R168). -/
def request (armed : Bool) (serve : State → Served) (s : State) : Host.Outcome State Fault Refusal :=
  .next (if s.hears then (serve s).finish armed else s.missFrame)

/-- An event of the road, the lamps or the timers; there is none while the part is in a reset (R163). -/
def event (f : State → State) (s : State) : Host.Outcome State Fault Refusal :=
  .next (if s.resetting then s else f s)

end Sys2Proof.Machine
end

