-- ==== Sys2Proof/Machine/Closes.lean ====
section
/-! DEFINITION. The interval close, in the order of R63: latch, station, pending plan, spill, rate, automatic
activation. -/

namespace Sys2Proof.Machine

/-- Step 1: every channel bound to the ramp latches its period (R8). -/
def State.latchChannels (s : State) (r : Fin 4) : State :=
  s.mapChans fun _ c => if s.rampOfDuty c.duty = some r then c.latch (s.ramp r).ctl.interval else c

/-- The station channels of a close: MAINLINE, bound to the ramp, latched valid (R23). -/
def State.stationChannels (s : State) (r : Fin 4) : List (Fin 32) :=
  s.chansWhere fun c => c.duty = .mainline r && c.latchedValid

/-- Step 2: the station is formed, and the onset of mainline loss is raised (R23 to R28). -/
def State.formStation (s : State) (r : Fin 4) : State :=
  let cs := s.stationChannels r
  let occupancies := (cs.map fun c => (s.chan c).latchedOcc).sum
  let counts := (cs.map fun c => (s.chan c).latchedCount).sum
  let formed := s.modRamp r fun x =>
    { x with station := x.station.formed cs.length occupancies counts x.ctl.interval }
  if cs.length = 0 && (s.ramp r).station.valid then
    raise .mainlineLost .ramp r.val (s.chansWhere fun c => c.duty = .mainline r).length formed
  else formed

/-- Step 3: a pending plan of a METERING, SUSPENDED or STOPPING ramp becomes active (R54). -/
def State.applyPending (s : State) (r : Fin 4) : State :=
  match s.rampState r with
  | .metering | .suspended | .stopping =>
    s.modCtl r fun c => { c with active := c.pending.or c.active, pending := none }
  | .closed | .standby => s

/-- The judgement of spill (R44). -/
def State.spills (s : State) (r : Fin 4) (p : PlanFields) : Bool :=
  (List.finRange 32).any (fun c =>
      (s.chan c).duty = .queue r && (s.chan c).latchedValid && p.spillOcc ≤ (s.chan c).latchedOcc)
    || (s.ramp r).queue.stored = (s.ramp r).queue.capacity

/-- Step 4: spill is evaluated, and its onset raised (R44, R45). -/
def State.evaluateSpill (s : State) (r : Fin 4) (p : PlanFields) : State :=
  let judged := s.modQueue r fun q => { q with spill := s.spills r p }
  if s.spills r p && !(s.ramp r).queue.spill then raise .queueSpill .ramp r.val 0 judged else judged

/-- Step 5: the Rate Unit computes, under an override if one stands (R85, R91). -/
def State.computeRate (s : State) (r : Fin 4) (p : PlanFields) : State :=
  s.modRamp r fun x =>
    x.handRate
      (match x.ctl.override with
        | some o => x.rate.atOverride o.rate
        | none => x.rate.compute p x.station x.queue.stored x.queue.spill)

/-- Steps 4 and 5, for a METERING ramp and its active plan. -/
def State.meterClose (s : State) (r : Fin 4) : State :=
  match s.rampState r, (s.ramp r).ctl.active with
  | .metering, some p =>
    let spilled := s.evaluateSpill r (s.plan p).fields
    spilled.computeRate r (s.plan p).fields
  | _, _ => s

/-- The start test of a close (R70). -/
def Station.startTest (p : PlanFields) (x : Station) : Bool := x.valid && p.onOcc ≤ x.occupancy

/-- The stop test of a close (R71). -/
def Station.stopTest (p : PlanFields) (stored : Nat) (x : Station) : Bool :=
  x.valid && x.occupancy ≤ p.offOcc && stored ≤ p.offQueue

/-- The run counters written. -/
def State.setRuns (s : State) (r : Fin 4) (onRun offRun : Nat) : State :=
  s.modCtl r fun c => { c with onRun := onRun, offRun := offRun }

/-- Automatic activation in STANDBY (R70); every start attempt fails while a restart is pending (R166). -/
def State.automaticStart (s : State) (r : Fin 4) (p : PlanFields) : State :=
  let onRun := if (s.ramp r).station.startTest p then (s.ramp r).ctl.onRun + 1 else 0
  if p.onCount ≤ onRun then
    if (s.startBar r).isNone && !s.unit.restartPending then
      raise .autoChange .ramp r.val 1 (s.startRamp r)
    else s.setRuns r 0 0
  else s.setRuns r onRun 0

/-- Automatic activation in METERING (R71). -/
def State.automaticStop (s : State) (r : Fin 4) (p : PlanFields) : State :=
  let offRun :=
    if (s.ramp r).station.stopTest p (s.ramp r).queue.stored then (s.ramp r).ctl.offRun + 1 else 0
  if p.offCount ≤ offRun then raise .autoChange .ramp r.val 2 (s.stopRamp r) else s.setRuns r 0 offRun

/-- Step 6: automatic activation, when the effective mode is AUTO (R70, R71); without a plan, and in the other states,
the run counters are held at 0. -/
def State.activate (s : State) (r : Fin 4) : State :=
  if s.effectiveMode r = .auto then
    match s.rampState r, (s.ramp r).ctl.active with
    | .standby, some p => s.automaticStart r (s.plan p).fields
    | .metering, some p => s.automaticStop r (s.plan p).fields
    | _, _ => s.setRuns r 0 0
  else s

/-- The interval close of a ramp (R63). -/
def State.closeInterval (s : State) (r : Fin 4) : State :=
  let latched := (s.modCtl r fun c => { c with elapsed := 0 }).latchChannels r
  (((latched.formStation r).applyPending r).meterClose r).activate r

/-- INTERVAL_CLOSE: the interval elapsed of a ramp that is not CLOSED reaches the control interval (R63). -/
def execIntervalClose (r : Fin 4) (s : State) : Host.Outcome State Fault Refusal :=
  event (fun s => if s.rampState r = .closed then s else s.closeInterval r) s

end Sys2Proof.Machine
end

