-- ==== Sys2Proof/Machine/Replies.lean ====
section
/-! DEFINITION. The codes and reply layouts of section 12.6 and the plan reply of R58. -/

namespace Sys2Proof.Machine

/-! ## Codes -/

/-- The result codes of section 12.5. -/
def Result.code : Result → Byte
  | .ok => 0x00
  | .clamped => 0x01
  | .badOpcode => 0x02
  | .badId => 0x03
  | .badValue => 0x04
  | .undefined => 0x05
  | .inUse => 0x06
  | .wrongState => 0x07
  | .locked => 0x08
  | .tooSoon => 0x09
  | .faultPending => 0x0A
  | .notArmed => 0x0B
  | .rampsActive => 0x0C
  | .sequence => 0x0D
  | .parked => 0x0E
  | .lockedOut => 0x0F
  | .supervision => 0x10

def ChannelState.code : ChannelState → Nat
  | .unused => 0
  | .active => 1
  | .faulted _ => 2
  | .parked => 3

/-- The fault kind of a channel as reported: 0 in every state but FAULTED. -/
def ChannelState.faultCode : ChannelState → Nat
  | .faulted .stuckOn => 1
  | .faulted .silent => 2
  | .faulted .chatter => 3
  | .unused | .active | .parked => 0

def RampState.code : RampState → Nat
  | .closed => 0
  | .standby => 1
  | .metering => 2
  | .suspended => 3
  | .stopping => 4

def Mode.code : Mode → Nat
  | .host => 0
  | .auto => 1

def Decision.code : Decision → Nat
  | .none => 0
  | .start => 1
  | .feedback => 2
  | .fallback => 3
  | .min => 4
  | .max => 5
  | .wait => 6
  | .spill => 7
  | .cap => 8
  | .override => 9

def LaneState.code : LaneState → Nat
  | .dark => 0
  | .proving => 1
  | .starting => 2
  | .redMin => 3
  | .redReady => 4
  | .green => 5
  | .amber => 6
  | .resting => 7
  | .flush => 8
  | .supplyOut => 9
  | .faultLocked _ => 10

def Aspect.code : Aspect → Nat
  | .none => 0
  | .red => 1
  | .amber => 2
  | .green => 3

/-- The lockout cause as reported: 0 in every state but FAULT_LOCKED. -/
def LaneState.lockCode : LaneState → Nat
  | .faultLocked .conflict => 1
  | .faultLocked .redLamp => 2
  | .faultLocked .outputStuck => 3
  | _ => 0

def Stage.code : Stage → Nat
  | .present => 0
  | .one => 1
  | .two => 2

/-- A set of lamps: bit 0 red, bit 1 amber, bit 2 green (section 12.6). -/
def Lamps.code (x : Lamps) : Nat := bit x.red + 2 * bit x.amber + 4 * bit x.green

/-! ## READ CAPS and READ STATUS -/

/-- The 16 fixed bytes of READ CAPS (R173). -/
def capsReply : List Byte :=
  [0x56, 0x01, 4, 8, 32, 16, 4, 100] ++ be16 3600 ++ [13, 10] ++ be16 383 ++ [10, 0x00]

/-- The 8 bytes of READ STATUS (R174). -/
def State.statusReply (s : State) : List Byte :=
  [byteOf s.sup.stage.code,
   byteOf (bit s.unit.causes.power + 2 * bit s.unit.causes.pin + 4 * bit s.unit.causes.clock
     + 8 * bit s.unit.causes.command),
   byteOf (bit s.locks.supervision + 2 * bit s.locks.timing + 4 * bit s.lamp.present + 8 * bit s.unit.armed
     + 16 * bit s.alertLow + 32 * bit s.faults.further + 64 * bit s.sup.enable)]
  ++ be32 s.unit.uptime ++ [byteOf s.link.shortFrames]

/-! ## DETECTOR READ -/

/-- The 24 bytes of DETECTOR READ (R21). -/
def Channel.reply (c : Channel) : List Byte :=
  [byteOf c.duty.role.code, c.duty.bindingByte, byteOf c.settle, byteOf c.stuckOn, byteOf c.silent,
   byteOf c.chatter, byteOf c.state.code, byteOf c.state.faultCode,
   byteOf (bit c.occupied + 2 * bit c.acquiring + 4 * bit c.latchedValid)]
  ++ be16 c.onTime ++ be16 c.count ++ be16 c.latchedOnTime ++ be16 c.latchedCount ++ be16 c.latchedOcc
  ++ be16 (c.continuousOn / 100) ++ be16 (c.silence / 100) ++ [byteOf c.windowCount]

/-! ## PLAN READ -/

/-- The number of ramps that name the plan, in either role (R53). -/
def State.references (s : State) (p : Fin 16) : Nat :=
  (List.finRange 4).countP (fun r => (s.ramp r).ctl.active = some p)
    + (List.finRange 4).countP fun r => (s.ramp r).ctl.pending = some p

/-- A set of ramps as a byte, ramp n in bit n (R58). -/
def rampSet (p : Fin 4 → Bool) : Byte :=
  byteOf (bit (p 0) + 2 * bit (p 1) + 4 * bit (p 2) + 8 * bit (p 3))

/-- The fourteen fields in the order and widths of section 4.1. -/
def PlanFields.bytes (p : PlanFields) : List Byte :=
  be16 p.target ++ [byteOf p.gain] ++ be16 p.rateMin ++ be16 p.rateMax ++ be16 p.rateStart
  ++ be16 p.rateFallback ++ be16 p.maxWait ++ be16 p.spillOcc ++ be16 p.spillStep ++ be16 p.onOcc
  ++ [byteOf p.onCount] ++ be16 p.offOcc ++ [byteOf p.offCount, byteOf p.offQueue]

/-- The 28 bytes of PLAN READ (R58). -/
def State.planReply (s : State) (p : Fin 16) : List Byte :=
  [byteOf (bit (s.plan p).defined), byteOf (s.references p),
   rampSet fun r => (s.ramp r).ctl.active = some p,
   rampSet fun r => (s.ramp r).ctl.pending = some p]
  ++ (s.plan p).fields.bytes

/-! ## RAMP READ -/

/-- SIGNn is driven (R78). -/
def RampState.sign : RampState → Bool
  | .metering | .suspended => true
  | .closed | .standby | .stopping => false

/-- The ramp is ready (R100). -/
def Ramp.ready (x : Ramp) : Bool := x.rate.headway ≤ x.sched.sinceGrant

/-- Offsets 0 to 18 of RAMP READ: the Ramp Control part (R79). -/
def RampControl.reply (effective : Mode) (c : RampControl) : List Byte :=
  [byteOf c.state.code, byteOf c.mode.code, byteOf effective.code, byteOf c.interval, byteOf (c.elapsed / 10),
   indexByte c.active, indexByte c.pending]
  ++ be16 c.suspendHoldOff ++ be16 c.holdOff
  ++ (match c.override with
      | none => [0] ++ be16 0 ++ [0]
      | some o => [1] ++ be16 o.rate ++ [byteOf o.minutes])
  ++ [match c.suspension with
      | none => 0
      | some x => byteOf x.minutes]
  ++ [byteOf c.onRun, byteOf c.offRun, byteOf (bit c.state.sign)]

/-- Offsets 19 to 24: the station part (R30). -/
def Station.reply (x : Station) : List Byte :=
  [byteOf (bit x.valid)] ++ be16 x.occupancy ++ be16 x.flow ++ [byteOf x.size]

/-- Offsets 25 to 34: the queue part (R46). -/
def Queue.reply (q : Queue) : List Byte :=
  [byteOf q.capacity, byteOf q.position, byteOf q.emptyCheck, byteOf q.queueCheck, byteOf q.stored,
   byteOf (bit q.spill), byteOf (bit q.entryDegraded), byteOf q.overflow, byteOf q.slip, byteOf q.corrections]

/-- Offsets 35 to 53: the rate part (R97). -/
def Rate.reply (x : Rate) : List Byte :=
  be16 x.final ++ be16 x.headway ++ [byteOf x.decision.code] ++ be16s x.e ++ be32s x.r1 ++ be16 x.r2
  ++ be16 x.rWait ++ be16 x.rSpill ++ be16 x.ceiling

/-- A place of the waiting list as a byte, 0xFF when it is unused. -/
def listByte (w : List (Fin 8)) (i : Nat) : Byte := indexByte w[i]?

/-- Offsets 54 to 61: the scheduler part (R109). -/
def Ramp.schedReply (x : Ramp) : List Byte :=
  [byteOf x.sched.waiting.length, listByte x.sched.waiting 0, listByte x.sched.waiting 1,
   listByte x.sched.waiting 2, listByte x.sched.waiting 3]
  ++ be16 x.sched.sinceGrant ++ [byteOf (bit x.ready)]

/-- The 62 bytes of RAMP READ. -/
def State.rampReply (s : State) (r : Fin 4) : List Byte :=
  let x := s.ramp r
  x.ctl.reply (s.effectiveMode r) ++ x.station.reply ++ x.queue.reply ++ x.rate.reply ++ x.schedReply

/-! ## LANE READ -/

/-- The lane is on its ramp's waiting list (R132). -/
def State.listed (s : State) (l : Fin 8) : Bool :=
  match (s.lane l).ramp with
  | none => false
  | some r => (s.ramp r).sched.waiting.contains l

/-- The settle timer is 0; an unbound lane reads as settled (R147). -/
def Lane.settled (l : Lane) : Bool := l.ramp.isNone || l.settle.isNone || l.settle = some 0

/-- The 19 bytes of LANE READ (R132, R147). -/
def State.laneReply (s : State) (l : Fin 8) : List Byte :=
  let x := s.lane l
  [indexByte x.ramp,
   byteOf (bit x.inService + 2 * bit x.leaving + 4 * bit x.able + 8 * bit x.redSuspect
     + 16 * bit (s.demand l) + 32 * bit (s.listed l) + 64 * bit (s.exitPassage l) + 128 * bit x.settled),
   byteOf x.state.code]
  ++ be16 x.timer ++ [byteOf x.aspect.code, byteOf x.greenTime, byteOf x.amberTime]
  ++ be16 x.minRed ++ [byteOf x.startAmber] ++ be16 x.flushGreen
  ++ [byteOf x.state.lockCode, byteOf x.rechecks, byteOf x.transients] ++ be16 x.releases
  ++ [byteOf (x.sense.code + 8 * bit x.conflictMet)]

/-! ## FAULT READ -/

/-- Offsets 15 to 23 of FAULT READ: the first-fault record, zeros when it is empty (R151). -/
def recordReply : Option FaultRecord → List Byte
  | none => [0, 0, 0, 0, 0] ++ be32 0
  | some x =>
    [1, byteOf x.kind.number, byteOf x.object.code, byteOf x.index, byteOf x.detail] ++ be32 x.uptime

/-- The 25 bytes of FAULT READ (R151). -/
def FaultRegister.reply (f : FaultRegister) : List Byte :=
  be16 f.flags.toNat ++ (f.counts.toList.map byteOf) ++ recordReply f.first ++ [byteOf (bit f.further)]

/-! ## The output of the link -/

/-- The `k`-th byte shifted out on SDO in the phase the link is in: none while CS_N is high, when SDO is not driven; 0xFF
while a frame is being received; from the moment of evaluation the result, the reply bytes, then 0xFF (R167, R168). R167 does
not say what a part that waits for CS_N to rise shifts out; DESIGN CHOICE (notes/assumptions/18.md): 0xFF. -/
def Link.shiftedOut (k : Nat) (x : Link) : Option Byte :=
  match x.phase with
  | .idle => none
  | .receiving | .waitRise => some 0xFF
  | .reply =>
    match x.result with
    | none => some 0xFF
    | some result => some (((result.code :: x.reply)[k]?).getD 0xFF)

end Sys2Proof.Machine
end

