-- ==== Sys2Proof/Machine/Faults.lean ====
section
/-! DEFINITION. The requests of the Fault Register (section 10.4). -/

namespace Sys2Proof.Machine

/-- FAULT READ (R151). -/
def execFaultRead (s : State) : Host.Outcome State Fault Refusal :=
  request false (fun s => accept s s.faults.reply) s

/-- The effect of FAULT CLEAR; the reply is the flags word after it (R152). -/
def serveFaultClear (mask : Half) (s : State) : Served :=
  let faults := s.faults.clear (kindMask mask)
  accept { s with faults := faults } (be16 faults.flags.toNat)

/-- FAULT CLEAR (R152). -/
def execFaultClear (mask : Half) (s : State) : Host.Outcome State Fault Refusal :=
  request false (serveFaultClear mask) s

/-- The effect of ALERT MASK; the reply is the mask as held (R154). -/
def serveAlertMask (mask : Half) (s : State) : Served :=
  accept { s with faults := { s.faults with mask := kindMask mask } } (be16 (kindMask mask).toNat)

/-- ALERT MASK (R154). -/
def execAlertMask (mask : Half) (s : State) : Host.Outcome State Fault Refusal :=
  request false (serveAlertMask mask) s

end Sys2Proof.Machine
end

