-- ==== Sys2Proof/Machine/Detectors.lean ====
section
/-! DEFINITION. The requests and the events of the detector channels (chapter 1), with the entries and exits they hand to
Queue Accounting (R34, R37). -/

namespace Sys2Proof.Machine

/-! ## Requests -/

/-- A request that names a channel; a number above 31 is BAD_ID before any other check (section 1.9). -/
def withChannel (channel : Byte) (serve : Fin 32 → State → Served) (s : State) : Served :=
  match channelOf? channel with
  | none => refuse s .badId
  | some c => serve c s

/-- The channel is rewritten, and the ramps it served and serves hear of it (R20). -/
def State.rewriteChannel (s : State) (c : Fin 32) (x : Channel) : State :=
  let before := s.boundRamp c
  let written := s.setChan c x
  (written.hearChannel before).hearChannel (written.boundRamp c)

/-- Check 6 of R19: the ramp of a binding is not CLOSED, the lane of a binding has a ramp. -/
def State.dutyDefined (s : State) : Duty → Bool
  | .unused => true
  | .mainline r | .entry r | .queue r => s.rampState r ≠ .closed
  | .demand l | .passage l => (s.lane l).ramp.isSome

/-- The channel that an accepted DETECTOR CONFIGURE leaves (R20). -/
def Channel.configure (duty : Duty) (t : ChannelTimings) (x : Channel) : Channel :=
  let written :=
    { x with duty := duty, settle := t.settle, stuckOn := t.stuckOn, silent := t.silent, chatter := t.chatter }
  if duty = .unused then { written.zeroDynamic with state := .unused } else written.activate

/-- The checks and the effect of DETECTOR CONFIGURE (R19, R20). -/
def serveDetectorConfigure (role binding : Byte) (t : ChannelTimings) (c : Fin 32) (s : State) : Served :=
  if (s.chan c).state = .parked then refuse s .parked
  else match dutyOf role binding with
    | .error result => refuse s result
    | .ok duty =>
      if !s.dutyDefined duty then refuse s .undefined
      else acceptClamped (s.rewriteChannel c ((s.chan c).configure duty t.clamp)) (t.clamp ≠ t)

/-- DETECTOR CONFIGURE (R19). -/
def execDetectorConfigure (channel role binding settle stuckOn silent chatter : Byte) (s : State) :
    Host.Outcome State Fault Refusal :=
  request false
    (withChannel channel (serveDetectorConfigure role binding
      { settle := settle.toNat, stuckOn := stuckOn.toNat, silent := silent.toNat, chatter := chatter.toNat })) s

/-- DETECTOR READ (R21). -/
def execDetectorRead (channel : Byte) (s : State) : Host.Outcome State Fault Refusal :=
  request false (withChannel channel fun c s => accept s (s.chan c).reply) s

/-- The checks and the effect of DETECTOR PARK (R16). -/
def serveDetectorPark (c : Fin 32) (s : State) : Served :=
  match (s.chan c).state with
  | .unused => refuse s .undefined
  | .parked => accept s
  | .active | .faulted _ => accept (s.rewriteChannel c { (s.chan c).zeroDynamic with state := .parked })

/-- DETECTOR PARK (R16). -/
def execDetectorPark (channel : Byte) (s : State) : Host.Outcome State Fault Refusal :=
  request false (withChannel channel serveDetectorPark) s

/-- The checks and the effect of DETECTOR UNPARK (R17). -/
def serveDetectorUnpark (c : Fin 32) (s : State) : Served :=
  match (s.chan c).state with
  | .unused => refuse s .undefined
  | .active | .faulted _ => refuse s .wrongState
  | .parked => accept (s.rewriteChannel c (s.chan c).activate)

/-- DETECTOR UNPARK (R17). -/
def execDetectorUnpark (channel : Byte) (s : State) : Host.Outcome State Fault Refusal :=
  request false (withChannel channel serveDetectorUnpark) s

/-- The checks and the effect of DETECTOR RESTORE (R15). -/
def serveDetectorRestore (c : Fin 32) (s : State) : Served :=
  match (s.chan c).state with
  | .unused | .active | .parked => refuse s .wrongState
  | .faulted _ => accept (s.rewriteChannel c (s.chan c).activate)

/-- DETECTOR RESTORE (R15). -/
def execDetectorRestore (channel : Byte) (s : State) : Host.Outcome State Fault Refusal :=
  request false (withChannel channel serveDetectorRestore) s

/-! ## Vehicles handed to Queue Accounting -/

/-- The ramp's stored count is being kept (R32). -/
def RampState.counts : RampState → Bool
  | .metering | .stopping => true
  | .closed | .standby | .suspended => false

/-- One entry (R34). -/
def Queue.enter (q : Queue) : Queue :=
  if q.stored < q.capacity then { q with stored := q.stored + 1 } else { q with overflow := satAdd 255 q.overflow }

/-- One exit (R37, R38). -/
def Queue.leave (q : Queue) : Queue :=
  if q.stored = 0 then { q with slip := satAdd 255 q.slip } else { q with stored := q.stored - 1 }

/-- A change of the stored count, made only while the count is kept (R32). -/
def State.tally (s : State) (r : Fin 4) (f : Queue → Queue) : State :=
  if (s.rampState r).counts then s.modQueue r f else s

/-- An actuation handed to the block that counts it (R6, R34, R37). -/
def State.countVehicle (s : State) : Duty → State
  | .entry r => s.tally r Queue.enter
  | .passage l =>
    match (s.lane l).ramp with
    | none => s
    | some r => s.tally r Queue.leave
  | .unused | .mainline _ | .queue _ | .demand _ => s

/-! ## Supervision faults -/

/-- The flag that matches a channel's fault kind (R14). -/
def ChannelFault.kind : ChannelFault → FaultKind
  | .stuckOn => .detStuckOn
  | .silent => .detSilent
  | .chatter => .detChatter

/-- A supervision fault puts the channel in FAULTED and is reported (R14, R18, R35). -/
def State.failChannel (s : State) (c : Fin 32) (kind : ChannelFault) : State :=
  (raise kind.kind .detector c.val (s.chan c).duty.role.code (s.modChan c (Channel.fail kind))).hearChannel
    (s.boundRamp c)

/-- The ramp a channel serves forms its waiting list and empty timer anew (R6, R18, R42). -/
def State.refreshServed (s : State) (c : Fin 32) : State :=
  match s.boundRamp c with
  | none => s
  | some r => s.refreshCalls r

/-! ## Events -/

/-- The channel's own record at an actuation (R6); a QUEUE channel's queue timer starts from 0 (R40). -/
def Channel.actuate (c : Channel) : Channel :=
  { c with
    occupied := true, input := true, qualification := 0
    count := satAdd 65535 c.count
    continuousOn := 0, silence := 0, windowCount := c.windowCount + 1
    queueTimer := 0 }

/-- An actuation, taken in full, and then the chatter check (R6, R13). -/
def State.actuate (s : State) (c : Fin 32) : State :=
  let counted := ((s.modChan c Channel.actuate).countVehicle (s.chan c).duty).refreshServed c
  if (counted.chan c).chatter < (counted.chan c).windowCount then counted.failChannel c .chatter else counted

/-- ACTUATION: the input of an ACTIVE channel that is clear and not acquiring has been high for the settle time (R4,
R6). -/
def execActuation (c : Fin 32) (s : State) : Host.Outcome State Fault Refusal :=
  event (fun s =>
    if (s.chan c).isActive && !(s.chan c).acquiring && !(s.chan c).occupied then s.actuate c else s) s

/-- The channel's own record at a qualified falling edge (R6, R11, R40). -/
def Channel.release (c : Channel) : Channel :=
  { c with
    occupied := false, input := false, qualification := 0, continuousOn := 0
    queueTimer := 0, served := false }

/-- QUALIFIED_FALLING_EDGE: the input of an ACTIVE channel that is occupied has been low for the settle time (R4, R6). -/
def execQualifiedFallingEdge (c : Fin 32) (s : State) : Host.Outcome State Fault Refusal :=
  event (fun s =>
    if (s.chan c).isActive && !(s.chan c).acquiring && (s.chan c).occupied then
      (s.modChan c Channel.release).refreshServed c
    else s) s

/-- The channel's own record at its acquisition: presence takes the level the input has held (R5, R40). -/
def Channel.acquire (c : Channel) : Channel :=
  { c with
    occupied := c.input, acquiring := false, qualification := 0, continuousOn := 0
    queueTimer := 0 }

/-- ACQUISITION: the input of an acquiring channel has held its level for the settle time (R5). -/
def execAcquisition (c : Fin 32) (s : State) : Host.Outcome State Fault Refusal :=
  event (fun s =>
    if (s.chan c).isActive && (s.chan c).acquiring then (s.modChan c Channel.acquire).refreshServed c else s) s

/-- STUCK_ON_EXPIRY: the continuous-on timer of an occupied ACTIVE channel reaches the stuck-on time (R11). -/
def execStuckOnExpiry (c : Fin 32) (s : State) : Host.Outcome State Fault Refusal :=
  event (fun s =>
    if (s.chan c).isActive && (s.chan c).occupied then
      (s.modChan c fun x => { x with continuousOn := x.stuckOn * 6000 }).failChannel c .stuckOn
    else s) s

/-- The ramp is METERING or SUSPENDED. -/
def State.rampRuns (s : State) (r : Fin 4) : Bool := s.rampState r = .metering || s.rampState r = .suspended

/-- Silence supervision runs for the channel (R12). -/
def State.silenceRuns (s : State) (c : Fin 32) : Bool :=
  (s.chan c).isActive && (s.chan c).silent ≠ 0 && (s.boundRamp c).any s.rampRuns

/-- SILENCE_EXPIRY: the running silence timer reaches the silent time (R12). -/
def execSilenceExpiry (c : Fin 32) (s : State) : Host.Outcome State Fault Refusal :=
  event (fun s =>
    if s.silenceRuns c then
      (s.modChan c fun x => { x with silence := x.silent * 6000 }).failChannel c .silent
    else s) s

/-- CHATTER_WINDOW_END: the next window of an ACTIVE channel begins at once (R13). -/
def execChatterWindowEnd (c : Fin 32) (s : State) : Host.Outcome State Fault Refusal :=
  event (fun s =>
    if (s.chan c).isActive then s.modChan c fun x => { x with windowCount := 0, windowPhase := 0 } else s) s

/-- A change of the raw level at a sample: in an ACTIVE channel the qualification timer starts from zero or stops, and
an acquiring channel waits anew (R4, R5). -/
def Channel.inputChange (high : Bool) (c : Channel) : Channel :=
  if c.input = high then c
  else { c with input := high, qualification := if c.isActive then 0 else c.qualification }

/-- DETECTOR_INPUT_CHANGE (R4): the level of the pin is seen in every state, and has no other effect outside ACTIVE. -/
def execDetectorInputChange (c : Fin 32) (high : Bool) (s : State) : Host.Outcome State Fault Refusal :=
  .next (s.modChan c (Channel.inputChange high))

end Sys2Proof.Machine
end

