-- ==== Sys2Proof/Machine/Lanes.lean ====
section
/-! DEFINITION. The requests and the timed transitions of the lanes (chapter 8), and the grant of the Release Scheduler
(chapter 7). -/

namespace Sys2Proof.Machine

/-! ## Requests -/

/-- A request that names a lane; a number above 7 is BAD_ID before any other check (section 8.9). -/
def withLane (lane : Byte) (serve : Fin 8 → State → Served) (s : State) : Served :=
  match laneOf? lane with
  | none => refuse s .badId
  | some l => serve l s

/-- A detector channel is bound to the lane (R128). -/
def State.laneHeld (s : State) (l : Fin 8) : Bool :=
  (List.finRange 32).any fun c => (s.chan c).duty = .demand l || (s.chan c).duty = .passage l

/-- Checks 3 and 4 of R128 on the ramp named: it is not CLOSED, and it has room for a lane it does not hold. -/
def State.bindingBar (s : State) (l : Fin 8) : Option (Fin 4) → Option Result
  | none => none
  | some r =>
    if s.rampState r = .closed then some .undefined
    else if (s.lane l).ramp ≠ some r && 4 ≤ (s.members r).length then some .inUse
    else none

/-- The Lamp Monitor's working state of an unbound lane is held at its reset value (R134). -/
def Lane.unwatch (l : Lane) : Lane :=
  { l with
    settle := none, conflict := 0, conflictMark := .counting, conflictBefore := 0, markBefore := .counting, recheck := 0
    clearRun := 0, seen := .dark, auxMark := false }

/-- The lane record that an accepted LANE CONFIGURE leaves (R128). -/
def Lane.configure (ramp : Option (Fin 4)) (t : LaneTimings) (x : Lane) : Lane :=
  let written :=
    { x with
      ramp := ramp
      inService := x.inService && x.ramp = ramp
      greenTime := t.green, amberTime := t.amber, minRed := t.minRed
      startAmber := t.startAmber, flushGreen := t.flushGreen }
  if ramp.isNone then written.unwatch else written

/-- The lane is rewritten, and the ramps it was and is bound to hear of it (R112). -/
def State.rewriteLane (s : State) (l : Fin 8) (x : Lane) : State :=
  ((s.setLane l x).refreshOf (s.lane l).ramp).refreshOf (if x.ramp = (s.lane l).ramp then none else x.ramp)

/-- The checks and the effect of LANE CONFIGURE (R128). -/
def serveLaneConfigure (ramp : Byte) (t : LaneTimings) (l : Fin 8) (s : State) : Served :=
  match orNone rampOf? ramp with
  | none => refuse s .badId
  | some r =>
    if (s.lane l).state ≠ .dark then refuse s .wrongState
    else match s.bindingBar l r with
      | some result => refuse s result
      | none =>
        if (s.lane l).ramp ≠ r && s.laneHeld l then refuse s .inUse
        else if s.locks.timing && t.clamp ≠ (s.lane l).timings then refuse s .locked
        else acceptClamped (s.rewriteLane l ((s.lane l).configure r t.clamp)) (t.clamp ≠ t)

/-- LANE CONFIGURE (R128). -/
def execLaneConfigure (lane ramp green amber : Byte) (minRed : Half) (startAmber : Byte) (flush : Half)
    (s : State) : Host.Outcome State Fault Refusal :=
  request false
    (withLane lane (serveLaneConfigure ramp
      { green := green.toNat, amber := amber.toNat, minRed := minRed.toNat
        startAmber := startAmber.toNat, flushGreen := flush.toNat })) s

/-- LANE READ (R132). -/
def execLaneRead (lane : Byte) (s : State) : Host.Outcome State Fault Refusal :=
  request false (withLane lane fun l s => accept s (s.laneReply l)) s

/-- A lane of a METERING ramp lights if it can (R115). -/
def State.lightIfMetering (s : State) (l : Lane) : Lane :=
  if (l.ramp.any fun r => s.rampState r = .metering) then l.light s.lamp.present else l

/-- The checks and the effect of LANE ENABLE (R129). -/
def serveLaneEnable (l : Fin 8) (s : State) : Served :=
  match (s.lane l).ramp with
  | none => refuse s .undefined
  | some r =>
    if s.rampState r = .suspended then refuse s .wrongState
    else if (s.lane l).leaving then refuse s .wrongState
    else if (s.lane l).inService then accept s
    else accept (s.rewriteLane l (s.lightIfMetering { s.lane l with inService := true }))

/-- LANE ENABLE (R129). -/
def execLaneEnable (lane : Byte) (s : State) : Host.Outcome State Fault Refusal :=
  request false (withLane lane serveLaneEnable) s

/-- The lane that LANE DISABLE leaves (R123, R130). -/
def Lane.disable (l : Lane) : Lane :=
  if l.isOut then { l with inService := false }
  else if l.leaving then l
  else ({ l with leaving := true } : Lane).stopPath

/-- LANE DISABLE (R130): taken in every state. -/
def execLaneDisable (lane : Byte) (s : State) : Host.Outcome State Fault Refusal :=
  request false (withLane lane fun l s => accept (s.rewriteLane l (s.lane l).disable)) s

/-- The state check and the effect of LANE RESTORE (R131). -/
def serveLaneRestore (l : Fin 8) (s : State) : Served :=
  if (s.lane l).isLocked then
    accept (s.rewriteLane l (s.lightIfMetering { (s.lane l).enter .dark with rechecks := 0 }))
  else refuse s .wrongState

/-- LANE RESTORE (R131). -/
def execLaneRestore (lane : Byte) (s : State) : Host.Outcome State Fault Refusal :=
  request false (withLane lane serveLaneRestore) s

/-! ## Timed transitions -/

/-- The lane goes from state `source` to the state that `next` gives, and its ramp hears of it; in any other state the
timer of `source` does not run, and nothing changes. -/
def State.moveLane (s : State) (l : Fin 8) (source : LaneState) (next : Lane → LaneState) : State :=
  if (s.lane l).state = source then s.rewriteLane l ((s.lane l).enter (next (s.lane l))) else s

/-- START_AMBER_EXPIRY (R117). -/
def execStartAmberExpiry (l : Fin 8) (s : State) : Host.Outcome State Fault Refusal :=
  event (fun s => s.moveLane l .starting fun _ => .redMin) s

/-- The table of R118. -/
def State.afterMinRed (s : State) (l : Lane) : LaneState :=
  if l.leaving || (l.ramp.any fun r => s.rampState r = .stopping) then .flush
  else if l.ramp.any fun r => s.rampState r = .suspended then .resting
  else .redReady

/-- MIN_RED_EXPIRY (R118). -/
def execMinRedExpiry (l : Fin 8) (s : State) : Host.Outcome State Fault Refusal :=
  event (fun s => s.moveLane l .redMin s.afterMinRed) s

/-- GREEN_EXPIRY (R120). -/
def execGreenExpiry (l : Fin 8) (s : State) : Host.Outcome State Fault Refusal :=
  event (fun s => s.moveLane l .green fun _ => .amber) s

/-- AMBER_EXPIRY (R120). -/
def execAmberExpiry (l : Fin 8) (s : State) : Host.Outcome State Fault Refusal :=
  event (fun s => s.moveLane l .amber fun _ => .redMin) s

/-- FLUSH_EXPIRY (R124). -/
def execFlushExpiry (l : Fin 8) (s : State) : Host.Outcome State Fault Refusal :=
  event (fun s => s.moveLane l .flush fun _ => .dark) s

/-! ## The grant -/

/-- The lane's own record at its grant: GREEN, and the release count, wrapping (R119). -/
def Lane.grant (l : Lane) : Lane := { l.enter .green with releases := (l.releases + 1) % 65536 }

/-- A grant to lane `l`, the head of the list (R105, R38). -/
def State.grantLane (s : State) (r : Fin 4) (l : Fin 8) (rest : List (Fin 8)) : State :=
  let listed := s.modSched r fun _ => { waiting := rest, sinceGrant := 0, fresh := false }
  let counted := if s.exitPassage l then listed else listed.modQueue r Queue.leave
  counted.modLane l Lane.grant

/-- GRANT: a METERING ramp that is ready grants the head of its waiting list (R104). -/
def execGrant (r : Fin 4) (s : State) : Host.Outcome State Fault Refusal :=
  event (fun s =>
    match (s.ramp r).sched.waiting with
    | [] => s
    | l :: rest =>
      if s.rampState r = .metering && (s.ramp r).ready && (s.lane l).state = .redReady then s.grantLane r l rest
      else s) s

end Sys2Proof.Machine
end

