-- ==== Sys2Proof/Machine/Lamps.lean ====
section
/-! DEFINITION. Proving, the lamp checks, conflict, the lamp supply and the lamp settings (chapter 9). -/

namespace Sys2Proof.Machine

/-! ## Settings -/

/-- The reply of LAMP SETTINGS: the qualify time and N as held (R146). -/
def LampUnit.settingsReply (x : LampUnit) : List Byte := [byteOf x.qualify, byteOf x.recheckN]

/-- The check and the effect of LAMP SETTINGS (R146). -/
def serveLampSettings (qualify recheckN : Nat) (s : State) : Served :=
  if s.locks.timing then refuse s .locked s.lamp.settingsReply
  else
    let lamp := { s.lamp with qualify := clampTo 5 50 qualify, recheckN := clampTo 1 7 recheckN }
    { state := { s with lamp := lamp }
      result := clampedIf (lamp.qualify ≠ qualify || lamp.recheckN ≠ recheckN)
      reply := lamp.settingsReply }

/-- LAMP SETTINGS (R146). -/
def execLampSettings (qualify recheckN : Byte) (s : State) : Host.Outcome State Fault Refusal :=
  request false (serveLampSettings qualify.toNat recheckN.toNat) s

/-! ## Proving -/

/-- PROVING_CLEAR: the clear run of a proving lane, whose sense inputs are low, reaches 1.0 s (R116, R135). -/
def execProvingClear (l : Fin 8) (s : State) : Host.Outcome State Fault Refusal :=
  event (fun s => if (s.lane l).sense = .dark then s.moveLane l .proving fun _ => .starting else s) s

/-- A lane is locked out with a cause, and its ramp hears of it (R126, R112). -/
def State.lockLane (s : State) (l : Fin 8) (cause : LockCause) : State :=
  s.rewriteLane l ((s.lane l).enter (.faultLocked cause))

/-- PROVING_WINDOW_END: the 3.0 s window of a proving lane ends without a clear run (R116, R135). -/
def execProvingWindowEnd (l : Fin 8) (s : State) : Host.Outcome State Fault Refusal :=
  event (fun s =>
    if (s.lane l).state = .proving then
      (raise .outputStuck .lane l.val (s.lane l).seen.code s).lockLane l .outputStuck
    else s) s

/-! ## Settle, red lamp, green and amber lamps -/

/-- SENSE_SETTLE_END: a lane's running settle timer reaches 0 (R134). -/
def execSenseSettleEnd (l : Fin 8) (s : State) : Host.Outcome State Fault Refusal :=
  event (fun s => s.modLane l fun x => { x with settle := none }) s

/-- The conditions of R139. -/
def State.redDoubted (s : State) (l : Fin 8) : Bool :=
  (s.lane l).ramp.isSome && (s.lane l).isRed && (s.lane l).settled && !(s.lane l).redSuspect && s.lamp.lsup
    && !(s.lane l).sense.red

/-- The onset of a red suspicion on the lane's record (R139). -/
def Lane.suspect (l : Lane) : Lane := { l with redSuspect := true, rechecks := 0, recheck := 50 }

/-- RED_SUSPECT_ONSET (R139, R103). -/
def execRedSuspectOnset (l : Fin 8) (s : State) : Host.Outcome State Fault Refusal :=
  event (fun s =>
    if s.redDoubted l then
      match (s.lane l).ramp with
      | none => s
      | some r => (s.modLane l Lane.suspect).refreshCalls r
    else s) s

/-- A re-check can be taken: LSUP reads high and the settle that its rise starts has run out (R141). -/
def State.canRecheck (s : State) (l : Fin 8) : Bool := s.lamp.lsup && (s.lane l).settled

/-- A re-check that finds the red lit: the suspicion ends as a transient (R140). -/
def State.endSuspicion (s : State) (l : Fin 8) : State :=
  let ended := s.modLane l fun x =>
    { x with redSuspect := false, recheck := 0, transients := satAdd 255 x.transients }
  let raised := raise .lampTransient .lane l.val (s.lane l).rechecks ended
  match (s.lane l).ramp with
  | none => raised
  | some r => raised.refreshCalls r

/-- A re-check that finds the red dark: counted, and the lane locked out at N (R140). -/
def State.failRecheck (s : State) (l : Fin 8) : State :=
  let used := (s.lane l).rechecks + 1
  if used < s.lamp.recheckN then s.modLane l fun x => { x with rechecks := used, recheck := 50 }
  else
    (raise .redLampOut .lane l.val used (s.modLane l fun x => { x with rechecks := used })).lockLane l .redLamp

/-- RED_RECHECK: the re-check timer of a red-suspect lane reaches 0; the re-check is taken, or held while it cannot be
(R140, R141). -/
def execRedRecheck (l : Fin 8) (s : State) : Host.Outcome State Fault Refusal :=
  event (fun s =>
    if !(s.lane l).redSuspect then s
    else if !s.canRecheck l then s.modLane l fun x => { x with recheck := 0 }
    else if (s.lane l).sense.red then s.endSuspicion l
    else s.failRecheck l) s

/-- The sense level of the amber or green lamp a lane commands; red and none are not judged here (R142). -/
def Lane.auxDark (l : Lane) : Bool :=
  match l.aspect with
  | .amber => !l.sense.amber
  | .green => !l.sense.green
  | .red | .none => false

/-- The conditions of R142. -/
def State.auxDoubted (s : State) (l : Fin 8) : Bool :=
  (s.lane l).auxDark && !(s.lane l).auxMark && (s.lane l).settled && s.lamp.lsup

/-- AUX_LAMP_OUT (R142). -/
def execAuxLampOut (l : Fin 8) (s : State) : Host.Outcome State Fault Refusal :=
  event (fun s =>
    if s.auxDoubted l then
      raise .auxLampOut .lane l.val (s.lane l).aspect.code (s.modLane l fun x => { x with auxMark := true })
    else s) s

/-! ## Conflict -/

/-- The lane in conflict is locked with CONFLICT, its timer holding at the qualify time (R136, R137, R138). -/
def Lane.lockConflict (qualify : Nat) (l : Lane) : Lane :=
  { l.enter (.faultLocked .conflict) with
    conflict := qualify, conflictMark := .taken, conflictBefore := qualify, markBefore := .taken }

/-- Every other member lane that is not FAULT_LOCKED goes DARK (R127). -/
def State.darkenMembers (s : State) (r : Fin 4) : State :=
  s.mapMembers r fun x => if x.isLocked then x else x.enter .dark

/-- A conflict qualifies with a detail on a member lane of a ramp: the lane is locked and the ceiling falls (R126, R112),
the other lanes go DARK (R127), and the ramp stops (R68). -/
def State.qualifyConflict (s : State) (l : Fin 8) (r : Fin 4) (detail : Nat) : State :=
  let raised := raise .conflict .lane l.val detail s
  let locked := raised.modLane l (Lane.lockConflict s.lamp.qualify)
  (((locked.formCeiling r).darkenMembers r).stopRamp r).refreshRamp r

/-- CONFLICT_QUALIFIED: the running conflict timer of a lane reaches the qualify time; no further conflict qualifies
until it has returned to 0 (R136, R137). A grant taken first does not undo it: it then locks the lane in GREEN (R106, R138). -/
def execConflictQualified (l : Fin 8) (s : State) : Host.Outcome State Fault Refusal :=
  event (fun s =>
    match (s.lane l).ramp, (s.lane l).conflictTaken? with
    | some r, some detail => s.qualifyConflict l r detail
    | _, _ => s) s

/-! ## The lamp supply -/

/-- Every ramp hears of an event that reached its lanes. -/
def State.refreshAll (s : State) : State := (List.finRange 4).foldl State.refreshRamp s

/-- The lane is in PROVING through FLUSH (R125). -/
def Lane.losesSupply (l : Lane) : Bool := l.ramp.isSome && (l.isLit || l.state = .proving)

/-- The loss handed to a lane (R125). -/
def Lane.loseSupply (stopping : Bool) (l : Lane) : Lane :=
  if l.losesSupply then
    let out := l.enter .supplyOut
    if l.leaving || stopping then out.enter .dark else out
  else l

/-- Loss of the lamp supply qualifies (R143). A lane that goes to SUPPLY_OUT here, and on to DARK too, has "no conflict" from the
same sample, as the table of R138 says. DEDUCED (notes/assumptions/23.md): there is then no conflict onset for the flags and counts of R156 to show;
a lane that the loss does not move keeps its conflict, and both are shown in either order. -/
def State.loseSupply (s : State) : State :=
  let lost := (List.finRange 8).countP fun l => (s.lane l).losesSupply
  let out := { s with lamp := { s.lamp with present := false, supplyTimer := 0, lsup := false } }
  (raise .supplyLoss .part 255 lost
    (out.mapLanes fun _ l => l.loseSupply (l.ramp.any fun r => s.rampState r = .stopping))).refreshAll

/-- SUPPLY_LOSS: LSUP has read low for 100 ms in supply state PRESENT (R143). -/
def execSupplyLoss (s : State) : Host.Outcome State Fault Refusal :=
  event (fun s => if s.lamp.present then s.loseSupply else s) s

/-- The moment at which an entry to SUPPLY_OUT dropped the lane's conflict is over: the timer counts again. -/
def Lane.conflictAnew (l : Lane) : Lane :=
  { l with conflictMark := if l.conflictMark = .dropped then .counting else l.conflictMark }

/-- Return of the lamp supply qualifies (R144, R125). DESIGN CHOICE (notes/assumptions/23.md): the moment of the loss is then
over. -/
def State.regainSupply (s : State) : State :=
  let back := { s with lamp := { s.lamp with present := true, supplyTimer := 0, lsup := true } }
  (back.mapLanes fun _ l => if l.state = .supplyOut then l.conflictAnew.enter .proving else l.conflictAnew)

/-- SUPPLY_RETURN: LSUP has read high for 2.0 s in supply state OUT (R144). -/
def execSupplyReturn (s : State) : Host.Outcome State Fault Refusal :=
  event (fun s => if s.lamp.present then s else s.regainSupply) s

/-! ## The sense inputs and LSUP -/

/-- The conflict timer at a sample at which a condition is met, counted on from `before`; at the qualify time the conflict is
reached, with the detail of this sample (R136). -/
def Lane.countConflict (qualify before : Nat) (l : Lane) : Lane :=
  { l with
    conflict := min qualify (before + 1)
    conflictMark := if qualify ≤ before + 1 then .reached l.conflictDetail else .counting }

/-- The present sample judged anew by the levels now seen at it: the conflict timer becomes 0 when no condition is met; a timer
that this sample had found running runs on; and one that it had found at 0 stands one sample above what it was before this
sample, or holds if the conflict was taken before (R136). DESIGN CHOICE (notes/assumptions/5.md): a change of the sense inputs
belongs to the present sample. -/
def Lane.judgeConflict (qualify : Nat) (l : Lane) : Lane :=
  if !l.conflictMet then { l with conflict := 0, conflictMark := .counting }
  else if l.conflict ≠ 0 then l
  else if l.markBefore = .taken then { l with conflict := l.conflictBefore, conflictMark := .taken }
  else l.countConflict qualify l.conflictBefore

/-- The clear run and the proving seen set at the sample that shows changed sense levels: they start empty at the entry to
PROVING (R135), and each later sample with all inputs low counts. DESIGN CHOICE (notes/assumptions/5.md): the clear run is judged
anew by the change, and the seen set is not: an input high at the entry that falls at the first sample after it leaves a clear run
of 1 and stays in the set. -/
def Lane.judgeProving (l before : Lane) : Lane :=
  if l.state ≠ .proving then l
  else if l.sense = .dark then
    (if before.sense = .dark then l else { l with clearRun := if l.provingLeft = 300 then 0 else 1 })
  else
    { l with
      clearRun := 0
      seen :=
        { red := l.seen.red || l.sense.red, amber := l.seen.amber || l.sense.amber
          green := l.seen.green || l.sense.green } }

/-- A change of a lane's sense inputs; those of an unbound lane are only levels on pins (R134). -/
def Lane.senseChange (qualify : Nat) (levels : Lamps) (l : Lane) : Lane :=
  if l.sense = levels then l
  else if l.ramp.isNone then { l with sense := levels }
  else (({ l with sense := levels } : Lane).judgeConflict qualify).judgeProving l

/-- LAMP_SENSE_CHANGE (R134, R135, R136): during a reset the levels are on the pins, and no sense input is judged
(R133). -/
def execLampSenseChange (l : Fin 8) (red amber green : Bool) (s : State) : Host.Outcome State Fault Refusal :=
  let levels : Lamps := { red := red, amber := amber, green := green }
  .next (s.modLane l fun x => if s.resetting then { x with sense := levels } else x.senseChange s.lamp.qualify levels)

/-- A rise of LSUP sets the settle timer of a bound lane in a lit state (R134). -/
def Lane.settleAnew (l : Lane) : Lane := if l.ramp.isSome && l.isLit then { l with settle := some 30 } else l

/-- A change of LSUP: the supply timer starts or clears, and a rise settles the lit lanes anew (R134, R143, R144). -/
def State.supplyInput (high : Bool) (s : State) : State :=
  if s.lamp.lsup = high then s
  else
    let seen := { s with lamp := { s.lamp with lsup := high, supplyTimer := 0 } }
    if high then seen.mapLanes fun _ l => l.settleAnew else seen

/-- LAMP_SUPPLY_INPUT_CHANGE (R134, R143, R144). -/
def execLampSupplyInputChange (high : Bool) (s : State) : Host.Outcome State Fault Refusal :=
  .next (s.supplyInput high)

end Sys2Proof.Machine
end

