-- ==== Sys2Proof/Machine/LinkFrames.lean ====
section
/-! DEFINITION. The command link's own requests and frame events (chapter 12). -/

namespace Sys2Proof.Machine

/-- READ CAPS (R173). -/
def execReadCaps (s : State) : Host.Outcome State Fault Refusal := request false (fun s => accept s capsReply) s

/-- READ STATUS: formed before the frame's own clearing of the arming (R174). -/
def execReadStatus (s : State) : Host.Outcome State Fault Refusal :=
  request false (fun s => accept s s.statusReply) s

/-- A rise of CS_N. In a reset, and while the part waits for it, it only ends the wait: a frame cut by a reset is not counted
(R167, R169). In the reply phase it ends a complete frame and does not touch the count (R169); the rise at the end of an
accepted RESTART's frame is COMMAND_RESTART. Otherwise it discards a frame that has not been evaluated, and the short-frame
count rises (R169). DESIGN CHOICE (notes/assumptions/6.md): with CS_N high, SHORT_FRAME stands for its fall too. -/
def State.riseOfCs (s : State) : State :=
  if s.resetting || s.link.phase = .waitRise then { s with link := { s.link with phase := .idle } }
  else if s.unit.restartPending then s
  else if s.link.phase = .reply then { s with link := { s.link with phase := .idle, result := none, reply := [] } }
  else
    { s with link :=
      { phase := .idle, shortFrames := satAdd 255 s.link.shortFrames, result := none, reply := [] } }

/-- A fall of CS_N, with the rise before it where CS_N was low (notes/assumptions/6.md): the rise cuts a frame still being
received, which is counted, or ends a complete one, which is not (R169); the fall begins a frame where the part can receive one
(R167). -/
def State.fallOfCs (s : State) : State :=
  if s.hears then
    let up := if s.link.phase = .idle then s else s.riseOfCs
    { up with link := { up.link with phase := .receiving, result := none, reply := [] } }
  else s.missFrame

/-- FRAME_BEGIN (R167). -/
def execFrameBegin (s : State) : Host.Outcome State Fault Refusal := .next s.fallOfCs

/-- SHORT_FRAME (R169). -/
def execShortFrame (s : State) : Host.Outcome State Fault Refusal := .next s.riseOfCs

/-- BAD_OPCODE (R170). -/
def execBadOpcode (opcode : Byte) (s : State) : Host.Outcome State Fault Refusal :=
  if knownOpcodes.contains opcode then .refused .opcodeKnown
  else request false (fun s => refuse s .badOpcode) s

end Sys2Proof.Machine
end

