-- ==== Sys2Proof/Machine/Plans.lean ====
section
/-! DEFINITION. The requests of the Plan Table (chapter 4). -/

namespace Sys2Proof.Machine

/-- A request that names a plan; a number above 15 is BAD_ID (R48, R56, R58). -/
def withPlan (plan : Byte) (serve : Fin 16 → State → Served) (s : State) : Served :=
  match planOf? plan with
  | none => refuse s .badId
  | some p => serve p s

/-- The clamping, the structural check and the write of PLAN WRITE (R48, R49, R50). -/
def servePlanWrite (sent : PlanFields) (p : Fin 16) (s : State) : Served :=
  if sent.candidate.sound then
    acceptClamped (s.setPlan p { defined := true, fields := sent.candidate }) (sent.candidate ≠ sent)
  else refuse s .badValue

/-- PLAN WRITE (R48). -/
def execPlanWrite (plan : Byte) (fields : PlanOperands) (s : State) : Host.Outcome State Fault Refusal :=
  request false (withPlan plan (servePlanWrite (PlanFields.sent fields))) s

/-- PLAN READ (R58). -/
def execPlanRead (plan : Byte) (s : State) : Host.Outcome State Fault Refusal :=
  request false (withPlan plan fun p s => accept s (s.planReply p)) s

/-- The checks and the effect of PLAN RETIRE (R56). -/
def servePlanRetire (p : Fin 16) (s : State) : Served :=
  if s.references p = 0 then accept (s.setPlan p Plan.free) else refuse s .inUse

/-- PLAN RETIRE (R56). -/
def execPlanRetire (plan : Byte) (s : State) : Host.Outcome State Fault Refusal :=
  request false (withPlan plan servePlanRetire) s

end Sys2Proof.Machine
end

