-- ==== Sys2Proof/Machine/QueueEvents.lean ====
section
/-! DEFINITION. The corrections of Queue Accounting (section 3.5). -/

namespace Sys2Proof.Machine

/-- The queue timer of a channel runs for the ramp (R40). -/
def State.queueRuns (s : State) (c : Fin 32) (r : Fin 4) : Bool :=
  (s.chan c).isActive && (s.chan c).duty = .queue r && (s.chan c).occupied && !(s.chan c).served
    && (s.rampState r).counts

/-- The queue correction of the stored count (R41). -/
def Queue.raise (q : Queue) : Queue :=
  if q.stored < q.position then
    { q with stored := q.position, corrections := satAdd 255 q.corrections }
  else q

/-- The queue correction and the served mark (R41). -/
def State.correctQueue (s : State) (c : Fin 32) (r : Fin 4) : State :=
  let timed := s.modChan c fun x => { x with queueTimer := (s.ramp r).queue.queueCheck * 10, served := true }
  timed.modQueue r Queue.raise

/-- QUEUE_CORRECTION: a running queue timer reaches the queue check (R41). -/
def execQueueCorrection (c : Fin 32) (s : State) : Host.Outcome State Fault Refusal :=
  event (fun s =>
    match (s.chan c).duty with
    | .queue r => if s.queueRuns c r then s.correctQueue c r else s
    | .unused | .mainline _ | .entry _ | .demand _ | .passage _ => s) s

/-- The empty correction of the stored count; the timer holds at the empty check and the armed mark clears (R43). -/
def Queue.drain (q : Queue) : Queue :=
  { q with
    emptyTimer := q.emptyCheck * 10, armed := false, stored := 0
    corrections := if q.stored = 0 then q.corrections else satAdd 255 q.corrections }

/-- EMPTY_CORRECTION: the running empty timer reaches the empty check with the armed mark set (R43). -/
def execEmptyCorrection (r : Fin 4) (s : State) : Host.Outcome State Fault Refusal :=
  event (fun s => if s.emptyRuns r && (s.ramp r).queue.armed then s.modQueue r Queue.drain else s) s

end Sys2Proof.Machine
end

