-- ==== Sys2Proof/Machine/Ramps.lean ====
section
/-! DEFINITION. The requests of Ramp Control and the expiries of its times (chapter 5). -/

namespace Sys2Proof.Machine

/-- A request that names a ramp; a number above 3 is BAD_ID (chapter 5). -/
def withRamp (ramp : Byte) (serve : Fin 4 → State → Served) (s : State) : Served :=
  match rampOf? ramp with
  | none => refuse s .badId
  | some r => serve r s

/-! ## Configuration -/

/-- The configuration fields of a ramp record written (R33, R61). -/
def Ramp.configure (p : RampSettings) (x : Ramp) : Ramp :=
  { x with
    ctl := { x.ctl with interval := p.interval, suspendHoldOff := p.holdOff }
    queue := { x.queue with
      capacity := p.capacity, position := p.position
      emptyCheck := p.emptyCheck, queueCheck := p.queueCheck } }

/-- A CLOSED ramp enters STANDBY with the written configuration (R61, R22, R31, R35, R80, R98). -/
def State.openRamp (s : State) (r : Fin 4) (p : RampSettings) : State :=
  let opened := s.setRamp r
    (Ramp.configure p { Ramp.fullReset with ctl := { RampControl.fullReset with state := .standby } })
  (opened.formEntryDegraded r).formCeiling r

/-- The interval of a ramp restarts: its channels zero their on-time and count and clear their period marks (R10). -/
def State.restartInterval (s : State) (r : Fin 4) : State :=
  (s.modCtl r fun c => { c with elapsed := 0 }).mapChans fun _ c =>
    if s.rampOfDuty c.duty = some r then { c with onTime := 0, count := 0, periodMark := false } else c

/-- RAMP CONFIGURE of a STANDBY ramp (R61). -/
def State.reconfigureRamp (s : State) (r : Fin 4) (p : RampSettings) : State :=
  let written := s.modRamp r (Ramp.configure p)
  if p.interval = (s.ramp r).ctl.interval then written else written.restartInterval r

/-- The state check and the effect of RAMP CONFIGURE (R61). -/
def serveRampConfigure (p : RampSettings) (r : Fin 4) (s : State) : Served :=
  match s.rampState r with
  | .closed => acceptClamped (s.openRamp r p.clamp) (p.clamp ≠ p)
  | .standby => acceptClamped (s.reconfigureRamp r p.clamp) (p.clamp ≠ p)
  | .metering | .suspended | .stopping => refuse s .wrongState

/-- RAMP CONFIGURE (R61). -/
def execRampConfigure (ramp interval capacity queuePos emptyCheck queueCheck : Byte) (holdOff : Half)
    (s : State) : Host.Outcome State Fault Refusal :=
  request false
    (withRamp ramp (serveRampConfigure
      { interval := interval.toNat, capacity := capacity.toNat, position := queuePos.toNat
        emptyCheck := emptyCheck.toNat, queueCheck := queueCheck.toNat, holdOff := holdOff.toNat })) s

/-- RAMP READ (R79). -/
def execRampRead (ramp : Byte) (s : State) : Host.Outcome State Fault Refusal :=
  request false (withRamp ramp fun r s => accept s (s.rampReply r)) s

/-- A lane or a channel is bound to the ramp (R62). -/
def State.rampHeld (s : State) (r : Fin 4) : Bool :=
  !(s.members r).isEmpty || (List.finRange 32).any fun c => s.boundRamp c = some r

/-- The checks and the effect of RAMP CLOSE (R62). -/
def serveRampClose (r : Fin 4) (s : State) : Served :=
  if s.rampState r ≠ .standby then refuse s .wrongState
  else if s.rampHeld r then refuse s .inUse
  else accept (s.setRamp r Ramp.fullReset)

/-- RAMP CLOSE (R62). -/
def execRampClose (ramp : Byte) (s : State) : Host.Outcome State Fault Refusal :=
  request false (withRamp ramp serveRampClose) s

/-! ## Plan and mode -/

/-- The plan references that an accepted RAMP PLAN leaves (R54, R72); naming none in STANDBY holds the run counters at 0
(R70). -/
def RampControl.assign (plan : Option (Fin 16)) (c : RampControl) : RampControl :=
  if c.state = .standby then
    { c with
      active := plan, pending := none
      onRun := if plan.isSome then c.onRun else 0
      offRun := if plan.isSome then c.offRun else 0 }
  else { c with pending := plan }

/-- A plan that RAMP PLAN names is DEFINED; none needs no plan (R55). -/
def State.planNamed (s : State) : Option (Fin 16) → Bool
  | none => true
  | some p => (s.plan p).defined

/-- The checks and the effect of RAMP PLAN (R72). -/
def serveRampPlan (plan : Byte) (r : Fin 4) (s : State) : Served :=
  match orNone planOf? plan with
  | none => refuse s .badId
  | some p =>
    if s.rampState r = .closed then refuse s .wrongState
    else if !s.planNamed p then refuse s .undefined
    else accept (s.modCtl r (RampControl.assign p))

/-- RAMP PLAN (R72). -/
def execRampPlan (ramp plan : Byte) (s : State) : Host.Outcome State Fault Refusal :=
  request false (withRamp ramp (serveRampPlan plan)) s

/-- The mode codes of R69. -/
def modeOf? (b : Byte) : Option Mode :=
  match b.toNat with
  | 0 => some .host
  | 1 => some .auto
  | _ => none

/-- The checks and the effect of RAMP MODE (R69). -/
def serveRampMode (mode : Byte) (r : Fin 4) (s : State) : Served :=
  if s.rampState r = .closed then refuse s .wrongState
  else match modeOf? mode with
    | none => refuse s .badValue
    | some m => accept (s.clearRuns (s.modCtl r fun c => { c with mode := m }))

/-- RAMP MODE (R69). -/
def execRampMode (ramp mode : Byte) (s : State) : Host.Outcome State Fault Refusal :=
  request false (withRamp ramp (serveRampMode mode)) s

/-! ## Start and stop -/

/-- The start conditions, in their order, and the start (R64, R65). -/
def serveRampStart (r : Fin 4) (s : State) : Served :=
  if s.rampState r ≠ .standby then refuse s .wrongState
  else match s.startBar r with
    | some result => refuse s result
    | none => accept (s.startRamp r)

/-- RAMP START (R64). -/
def execRampStart (ramp : Byte) (s : State) : Host.Outcome State Fault Refusal :=
  request false (withRamp ramp serveRampStart) s

/-- The effect of RAMP STOP by the ramp's state (R66). -/
def serveRampStop (r : Fin 4) (s : State) : Served :=
  if s.rampState r = .closed then refuse s .wrongState else accept (s.stopRamp r)

/-- RAMP STOP (R66). -/
def execRampStop (ramp : Byte) (s : State) : Host.Outcome State Fault Refusal :=
  request false (withRamp ramp serveRampStop) s

/-! ## Override -/

/-- An accepted override and the rate under it (R73, R91). -/
def State.setOverride (s : State) (r : Fin 4) (rate minutes : Nat) : State :=
  s.modRamp r fun x =>
    { x.handRate (x.rate.atOverride rate) with
      ctl := { x.ctl with override := some { rate := rate, minutes := minutes, run := 0 } } }

/-- The checks and the effect of RAMP OVERRIDE (R73). -/
def serveRampOverride (rate minutes : Nat) (r : Fin 4) (s : State) : Served :=
  if s.rampState r ≠ .metering then refuse s .wrongState
  else if s.sup.stage ≠ .present then refuse s .supervision
  else
    acceptClamped (s.setOverride r (clampTo 60 3600 rate) (clampTo 1 240 minutes))
      (clampTo 60 3600 rate ≠ rate || clampTo 1 240 minutes ≠ minutes)

/-- RAMP OVERRIDE (R73). -/
def execRampOverride (ramp : Byte) (rate : Half) (minutes : Byte) (s : State) : Host.Outcome State Fault Refusal :=
  request false (withRamp ramp (serveRampOverride rate.toNat minutes.toNat)) s

/-- The override becomes absent; the rate part stands (R74, R95). -/
def State.endOverride (s : State) (r : Fin 4) : State := s.modCtl r fun c => { c with override := none }

/-- RAMP OVERRIDE CANCEL (R74). -/
def execRampOverrideCancel (ramp : Byte) (s : State) : Host.Outcome State Fault Refusal :=
  request false (withRamp ramp fun r s => accept (s.endOverride r)) s

/-- OVERRIDE_EXPIRY: the remaining minutes of a standing override would fall from 1 (R74). -/
def execOverrideExpiry (r : Fin 4) (s : State) : Host.Outcome State Fault Refusal :=
  event (fun s => s.endOverride r) s

/-! ## Suspension -/

/-- The checks and the effect of RAMP SUSPEND (R75). -/
def serveRampSuspend (minutes : Nat) (r : Fin 4) (s : State) : Served :=
  if s.rampState r ≠ .metering then refuse s .wrongState
  else if (s.ramp r).ctl.holdOff ≠ 0 then refuse s .tooSoon
  else if (s.members r).any fun l => (s.lane l).redSuspect then refuse s .faultPending
  else acceptClamped (s.enterSuspended r (clampTo 1 120 minutes)) (clampTo 1 120 minutes ≠ minutes)

/-- RAMP SUSPEND (R75). -/
def execRampSuspend (ramp minutes : Byte) (s : State) : Host.Outcome State Fault Refusal :=
  request false (withRamp ramp (serveRampSuspend minutes.toNat)) s

/-- The state check and the effect of RAMP RESUME (R76). -/
def serveRampResume (r : Fin 4) (s : State) : Served :=
  if s.rampState r = .suspended then accept (s.resumeRamp r) else refuse s .wrongState

/-- RAMP RESUME (R76). -/
def execRampResume (ramp : Byte) (s : State) : Host.Outcome State Fault Refusal :=
  request false (withRamp ramp serveRampResume) s

/-- SUSPENSION_EXPIRY: the suspension remaining of a SUSPENDED ramp would fall from 1 (R76). -/
def execSuspensionExpiry (r : Fin 4) (s : State) : Host.Outcome State Fault Refusal :=
  event (fun s => if s.rampState r = .suspended then s.resumeRamp r else s) s

/-- HOLD_OFF_END: the hold-off remaining of a METERING ramp counts down to 0 (R77). -/
def execHoldOffEnd (r : Fin 4) (s : State) : Host.Outcome State Fault Refusal :=
  event (fun s =>
    if s.rampState r = .metering then s.modCtl r fun c => { c with holdOff := 0, holdOffRun := 0 } else s) s

end Sys2Proof.Machine
end

