-- ==== Sys2Proof/Machine/Resets.lean ====
section
/-! DEFINITION. The four kinds of reset, their causes and the command restart (sections 11.4 and 11.5). -/

namespace Sys2Proof.Machine

/-! ## Full resets -/

/-- The reception state when a reset cuts the link: CS_N stays where it is (R167, R169). -/
def LinkPhase.cut : LinkPhase → LinkPhase
  | .idle => .idle
  | .receiving | .reply | .waitRise => .waitRise

/-- Every block at its full-reset values (the table of section 11.5), with the reset made up of `kinds` in progress; the
levels of the pins, the queue and the model's own counter are not the part's to reset. -/
def State.fullReset (kinds : ResetKinds) (s : State) : State where
  channels := Vector.ofFn fun c => Channel.fullReset (s.chan c).input
  plans := Vector.ofFn fun _ => Plan.free
  ramps := Vector.ofFn fun _ => Ramp.fullReset
  lanes := Vector.ofFn fun l => Lane.fullReset (s.lane l).sense
  lamp := LampUnit.fullReset s.lamp.lsup
  faults := FaultRegister.reset
  sup := Supervision.fullReset
  locks := { supervision := false, timing := false }
  unit :=
    { armed := false, restartPending := false, inReset := kinds, causes := s.unit.causes
      uptime := 0, uptimeRun := 0 }
  link := Link.start s.link.phase.cut
  tickPhase := 0
  choices := s.choices
  pending := s.pending

/-- The union of two sets of reset kinds: a reset that begins during another is part of it (R163). -/
def ResetKinds.union (a b : ResetKinds) : ResetKinds where
  power := a.power || b.power
  pin := a.pin || b.pin
  clock := a.clock || b.clock

/-- The reset-cause flags written for the kinds of a reset (R164). -/
def State.setCauses (kinds : ResetKinds) (s : State) : State :=
  { s with unit := { s.unit with causes := s.unit.causes.after kinds } }

/-- A full reset of one kind begins (R163). -/
def State.beginReset (kind : ResetKinds) (s : State) : State :=
  let kinds := s.unit.inReset.union kind
  (s.fullReset kinds).setCauses kinds

/-- The reset ends: the blocks work from their full-reset values, uptime is 0 and the cause flags are set (R163,
R164). -/
def State.endReset (s : State) : State :=
  ((s.fullReset ResetKinds.none).setCauses s.unit.inReset)

/-- POWER_UP_RESET (R163). -/
def execPowerUpReset (s : State) : Host.Outcome State Fault Refusal :=
  .next (s.beginReset { power := true, pin := false, clock := false })

/-- PIN_RESET (R163). -/
def execPinReset (s : State) : Host.Outcome State Fault Refusal :=
  .next (s.beginReset { power := false, pin := true, clock := false })

/-- CLOCK_LOSS_RESET (R163). -/
def execClockLossReset (s : State) : Host.Outcome State Fault Refusal :=
  .next (s.beginReset { power := false, pin := false, clock := true })

/-- RESET_END (R163): nothing ends when no reset is in progress. -/
def execResetEnd (s : State) : Host.Outcome State Fault Refusal := .next (if s.resetting then s.endReset else s)

/-- CLEAR CAUSES (R164). -/
def execClearCauses (s : State) : Host.Outcome State Fault Refusal :=
  request false
    (fun s => accept { s with unit :=
      { s.unit with causes := { power := false, pin := false, clock := false, command := false } } }) s

/-! ## The command restart -/

/-- RESTART ARM (R165). -/
def execRestartArm (s : State) : Host.Outcome State Fault Refusal := request true (fun s => accept s) s

/-- Some ramp is METERING, SUSPENDED or STOPPING (R166). -/
def State.rampsActive (s : State) : Bool :=
  (List.finRange 4).any fun r =>
    s.rampState r = .metering || s.rampState r = .suspended || s.rampState r = .stopping

/-- The checks of RESTART, in their order (R166). -/
def serveRestart (s : State) : Served :=
  if !s.unit.armed then refuse s .notArmed
  else if s.rampsActive then refuse s .rampsActive
  else accept { s with unit := { s.unit with restartPending := true } }

/-- RESTART (R166). -/
def execRestart (s : State) : Host.Outcome State Fault Refusal := request false serveRestart s

/-- A channel after a command restart (R2). -/
def Channel.restart (c : Channel) : Channel :=
  match c.state with
  | .unused | .parked => c.zeroDynamic
  | .active | .faulted _ => { c.activate with periodMark := true }

/-- A lane after a command restart (R111, R133). -/
def Lane.restart (l : Lane) : Lane :=
  { Lane.fullReset l.sense with
    ramp := l.ramp, inService := l.inService
    state := if l.isLocked then l.state else .dark
    greenTime := l.greenTime, amberTime := l.amberTime, minRed := l.minRed
    startAmber := l.startAmber, flushGreen := l.flushGreen }

/-- A ramp after a command restart, but for its ceiling and entry-degraded (R22, R31, R60, R81, R98). -/
def Ramp.restart (x : Ramp) : Ramp :=
  if x.ctl.state = .closed then Ramp.fullReset
  else
    { Ramp.fullReset with
      ctl := { RampControl.fullReset with
        state := .standby, mode := x.ctl.mode, interval := x.ctl.interval
        suspendHoldOff := x.ctl.suspendHoldOff, active := x.ctl.active }
      queue := { Queue.fullReset with
        capacity := x.queue.capacity, position := x.queue.position
        emptyCheck := x.queue.emptyCheck, queueCheck := x.queue.queueCheck } }

/-- The supervision state after a command restart (R157). -/
def Supervision.restart (x : Supervision) : Supervision :=
  { x with stage := .present, timer := 0, lastToken := 0, firstMark := true, keptAlive := false }

/-- The lamp settings and the supply after a command restart (R133). -/
def LampUnit.restart (x : LampUnit) : LampUnit := { x with present := false, supplyTimer := 0 }

/-- The command restart of every record on its own (the table of section 11.5). -/
def State.restartRecords (s : State) : State where
  channels := Vector.ofFn fun c => (s.chan c).restart
  plans := s.plans
  ramps := Vector.ofFn fun r => (s.ramp r).restart
  lanes := Vector.ofFn fun l => (s.lane l).restart
  lamp := s.lamp.restart
  faults := FaultRegister.reset
  sup := s.sup.restart
  locks := s.locks
  unit :=
    { armed := false, restartPending := false, inReset := ResetKinds.none
      causes := { s.unit.causes with command := true }
      uptime := 0, uptimeRun := 0 }
  link := Link.start .idle
  tickPhase := 0
  choices := s.choices
  pending := s.pending

/-- What the restart forms from the channels and lanes it leaves: the ceiling and entry-degraded of every ramp (R31,
R81). -/
def State.commandRestart (s : State) : State :=
  let t := s.restartRecords
  t.mapRamps fun r x =>
    if x.ctl.state = .closed then x
    else
      { x with
        rate := { x.rate with ceiling := t.ceilingOf r }
        queue := { x.queue with entryDegraded := !t.someActive (.entry r) } }

/-- COMMAND_RESTART: CS_N rises at the end of the frame of an accepted RESTART (R163, R166). -/
def execCommandRestart (s : State) : Host.Outcome State Fault Refusal :=
  .next (if s.unit.restartPending && !s.resetting then s.commandRestart else s)

end Sys2Proof.Machine
end

