-- ==== Sys2Proof/Machine/Supervising.lean ====
section
/-! DEFINITION. Host-loss supervision and the set-once locks (sections 11.1 to 11.3). -/

namespace Sys2Proof.Machine

/-- The reply of KEEPALIVE: the stage and the last token (R159). -/
def State.keepaliveReply (s : State) : List Byte := [byteOf s.sup.stage.code, s.sup.lastToken]

/-- A keepalive is accepted: the token is stored, the first mark clears, the timer restarts, the stage returns to 0
(R159, R161). -/
def State.hostAlive (token : Byte) (s : State) : State :=
  let timed := { s with sup := { s.sup with lastToken := token, firstMark := false, timer := 0, keptAlive := true } }
  timed.stageReturn

/-- The handling of a token (R159). -/
def serveKeepalive (token : Byte) (s : State) : Served :=
  if !s.sup.enable then accept s s.keepaliveReply
  else if s.sup.firstMark || token = s.sup.lastToken + 1 then
    accept (s.hostAlive token) (s.hostAlive token).keepaliveReply
  else refuse s .sequence s.keepaliveReply

/-- KEEPALIVE (R159). -/
def execKeepalive (token : Byte) (s : State) : Host.Outcome State Fault Refusal :=
  request false (serveKeepalive token) s

/-- The supervision state that an accepted SUPERVISION SET writes, before the return of the stage (R158). -/
def Supervision.set (enable : Bool) (t1 t2 : Nat) (x : Supervision) : Supervision :=
  { x with
    enable := enable, t1 := clampTo 10 250 t1, t2 := clampTo 60 3600 t2
    timer := 0
    firstMark := x.firstMark || (enable && !x.enable) }

/-- The checks and the effect of SUPERVISION SET (R158). -/
def serveSupervisionSet (enable t1 : Byte) (t2 : Half) (s : State) : Served :=
  if s.locks.supervision then refuse s .locked
  else if 1 < enable.toNat then refuse s .badValue
  else
    let written := { s with sup := s.sup.set (enable = 1) t1.toNat t2.toNat }
    acceptClamped written.stageReturn
      (written.sup.t1 ≠ t1.toNat || written.sup.t2 ≠ t2.toNat)

/-- SUPERVISION SET (R158). -/
def execSupervisionSet (enable t1 : Byte) (t2 : Half) (s : State) : Host.Outcome State Fault Refusal :=
  request false (serveSupervisionSet enable t1 t2) s

/-- The checks and the effect of SET LOCK (R162). -/
def serveSetLock (kind : Byte) (s : State) : Served :=
  match kind.toNat with
  | 1 =>
    if s.locks.supervision then accept s
    else if s.sup.enable then accept { s with locks := { s.locks with supervision := true } }
    else refuse s .wrongState
  | 2 => accept { s with locks := { s.locks with timing := true } }
  | _ => refuse s .badValue

/-- SET LOCK (R162). -/
def execSetLock (kind : Byte) (s : State) : Host.Outcome State Fault Refusal := request false (serveSetLock kind) s

/-- Every standing override becomes absent (R160, R74). -/
def State.cancelOverrides (s : State) : State :=
  s.mapRamps fun _ x => { x with ctl := { x.ctl with override := none } }

/-- The onset of stage 1 (R160). -/
def State.beginStage1 (s : State) : State :=
  let staged := { s with sup := { s.sup with stage := .one, timer := s.sup.t1 * 10 } }
  raise .hostLost .part 255 1 (s.clearRuns staged.cancelOverrides)

/-- STAGE_1_ONSET: the running supervision timer reaches T1 at stage 0 (R160). With a keepalive accepted first at the same
moment, the expiry does not happen (R159). -/
def execStage1Onset (s : State) : Host.Outcome State Fault Refusal :=
  event (fun s => if s.sup.enable && s.sup.stage = .present && !s.sup.keptAlive then s.beginStage1 else s) s

/-- The onset of stage 2 (R160): every METERING or SUSPENDED ramp stops. -/
def State.beginStage2 (s : State) : State :=
  let staged := { s with sup := { s.sup with stage := .two, timer := (s.sup.t1 + s.sup.t2) * 10 } }
  (List.finRange 4).foldl State.stopRamp (raise .hostLost .part 255 2 staged)

/-- STAGE_2_ONSET: the running supervision timer reaches T1 + T2 at stage 1 (R160). -/
def execStage2Onset (s : State) : Host.Outcome State Fault Refusal :=
  event (fun s => if s.sup.enable && s.sup.stage = .one then s.beginStage2 else s) s

end Sys2Proof.Machine
end

