-- ==== Sys2Proof/Machine/Clock.lean ====
section
/-! DEFINITION. The part's own time: 10 ms of it (every sample and timer of chapters 1 to 11), and the events that a
state has due. -/

namespace Sys2Proof.Machine

/-! ## 10 ms of each record -/

/-- The qualification timer is comparing: the channel is acquiring, or its input differs from its presence (R4, R5). -/
def Channel.comparing (c : Channel) : Bool := c.isActive && (c.acquiring || c.input ≠ c.occupied)

/-- 10 ms of a channel: qualification, on-time, the supervision timers and the chatter window (R4, R5, R7, R11 to R13),
and at a tick the queue timer (R40). DESIGN CHOICE (notes/assumptions/13.md): a qualification timer that does not run stands
at 0. -/
def State.sampleChannel (s : State) (tick : Bool) (i : Fin 32) (c : Channel) : Channel :=
  let interval := (s.boundRamp i).elim 0 fun r => (s.ramp r).ctl.interval
  let running := (s.boundRamp i).any fun r => s.rampState r ≠ .closed
  let queueRuns : Bool := match c.duty with | .queue r => s.queueRuns i r | _ => false
  { c with
    qualification := if c.comparing then min 10 (c.qualification + 1) else 0
    onTime := if c.isActive && c.occupied && running then min (interval * 100) (c.onTime + 1) else c.onTime
    continuousOn := if c.isActive && c.occupied then min (c.stuckOn * 6000) (c.continuousOn + 1) else c.continuousOn
    silence := if s.silenceRuns i then min (c.silent * 6000) (c.silence + 1) else c.silence
    windowPhase := if c.isActive then min 100 (c.windowPhase + 1) else c.windowPhase
    queueTimer := if tick && queueRuns then min 600 (c.queueTimer + 1) else c.queueTimer }

/-- The conflict timer at a sample (R136). R136 says that a timer whose conflict has been taken holds at the qualify time;
DESIGN CHOICE (notes/assumptions/20.md): at the qualify time in force at each sample, also after LAMP SETTINGS has changed
it. -/
def Lane.sampleConflict (qualify : Nat) (l : Lane) : Lane :=
  let seen := { l with conflictBefore := l.conflict, markBefore := l.conflictMark }
  if !l.conflictMet then { seen with conflict := 0, conflictMark := .counting }
  else if l.conflictMark = .taken then { seen with conflict := qualify }
  else seen.countConflict qualify l.conflict

/-- Proving at a sample (R116, R135): the window runs, and the state timer shows what is left of it in whole ds, rounded
up (R114). -/
def Lane.sampleProving (l : Lane) : Lane :=
  if l.state ≠ .proving then l
  else
    { l with
      provingLeft := l.provingLeft - 1
      timer := ceilDiv (l.provingLeft - 1) 10
      clearRun := if l.sense = .dark then min 100 (l.clearRun + 1) else 0
      seen :=
        { red := l.seen.red || l.sense.red, amber := l.seen.amber || l.sense.amber
          green := l.seen.green || l.sense.green } }

/-- A lane state whose timer counts in ticks (R114). -/
def LaneState.ticks : LaneState → Bool
  | .starting | .redMin | .green | .amber | .flush => true
  | .dark | .proving | .redReady | .resting | .supplyOut | .faultLocked _ => false

/-- 10 ms of a lane: the settle and re-check timers (R134, R140), conflict and proving; at a tick the state timer
(R114). -/
def Lane.sample (qualify : Nat) (tick : Bool) (l : Lane) : Lane :=
  let timed :=
    { l with
      settle := l.settle.map fun k => k - 1
      recheck := l.recheck - 1
      timer := if tick && l.state.ticks then l.timer - 1 else l.timer }
  if l.ramp.isSome then (timed.sampleConflict qualify).sampleProving else timed

/-- 10 ms of the lamp supply (R143, R144). -/
def LampUnit.sample (x : LampUnit) : LampUnit :=
  if x.present then { x with supplyTimer := if x.lsup then 0 else min 10 (x.supplyTimer + 1) }
  else { x with supplyTimer := if x.lsup then min 200 (x.supplyTimer + 1) else 0 }

/-- 10 ms of an override's minutes; the last minute ends in OVERRIDE_EXPIRY (R74). -/
def Override.sample (o : Override) : Override :=
  if o.run + 1 < 6000 then { o with run := o.run + 1 }
  else if 1 < o.minutes then { o with minutes := o.minutes - 1, run := 0 }
  else { o with run := 6000 }

/-- 10 ms of a suspension's minutes; the last minute ends in SUSPENSION_EXPIRY (R76). -/
def Suspension.sample (x : Suspension) : Suspension :=
  if x.run + 1 < 6000 then { x with run := x.run + 1 }
  else if 1 < x.minutes then { x with minutes := x.minutes - 1, run := 0 }
  else { x with run := 6000 }

/-- 10 ms of the hold-off of a METERING ramp; its last second ends in HOLD_OFF_END (R77). -/
def RampControl.sampleHoldOff (c : RampControl) : RampControl :=
  if c.state ≠ .metering || c.holdOff = 0 then c
  else if c.holdOffRun + 1 < 100 then { c with holdOffRun := c.holdOffRun + 1 }
  else if 1 < c.holdOff then { c with holdOff := c.holdOff - 1, holdOffRun := 0 }
  else { c with holdOffRun := 100 }

/-- 10 ms of the Ramp Control times (R63, R74, R76, R77). -/
def RampControl.sample (tick : Bool) (c : RampControl) : RampControl :=
  let timed := c.sampleHoldOff
  { timed with
    elapsed := if tick && c.state ≠ .closed then min (c.interval * 10) (c.elapsed + 1) else c.elapsed
    override := c.override.map Override.sample
    suspension := c.suspension.map Suspension.sample }

/-- 10 ms of a ramp: at a tick also the empty timer (R42) and since-last-grant (R99). -/
def State.sampleRamp (s : State) (tick : Bool) (r : Fin 4) (x : Ramp) : Ramp :=
  { x with
    ctl := x.ctl.sample tick
    queue := { x.queue with
      emptyTimer :=
        if s.emptyRuns r then
          (if tick then min (x.queue.emptyCheck * 10) (x.queue.emptyTimer + 1) else x.queue.emptyTimer)
        else 0 }
    sched := { x.sched with
      sinceGrant :=
        if tick && x.ctl.state = .metering then min 6000 (x.sched.sinceGrant + 1) else x.sched.sinceGrant
      fresh := false } }

/-- A tick of the supervision timer (R157). -/
def Supervision.sample (tick : Bool) (x : Supervision) : Supervision :=
  { x with
    keptAlive := false
    timer :=
      if !x.enable then 0 else if tick then min ((x.t1 + x.t2) * 10) (x.timer + 1) else x.timer }

/-- The largest uptime, in seconds (R163). -/
def maxUptime : Nat := 4294967295

/-- 10 ms of the uptime (R163). -/
def ResetUnit.sample (x : ResetUnit) : ResetUnit :=
  if x.uptimeRun + 1 < 100 then { x with uptimeRun := x.uptimeRun + 1 }
  else { x with uptimeRun := 0, uptime := satAdd maxUptime x.uptime }

/-- 10 ms of the whole part; none pass for it while it is in a reset. -/
def State.advance (s : State) : State :=
  if s.resetting then s
  else
    let tick : Bool := s.tickPhase = 9
    { s with
      channels := Vector.ofFn fun c => s.sampleChannel tick c (s.chan c)
      ramps := Vector.ofFn fun r => s.sampleRamp tick r (s.ramp r)
      lanes := Vector.ofFn fun l => (s.lane l).sample s.lamp.qualify tick
      lamp := s.lamp.sample
      sup := s.sup.sample tick
      unit := s.unit.sample
      tickPhase := if tick then 0 else s.tickPhase + 1 }

/-! ## What is due -/

/-- A command, if a condition holds. -/
def dueIf (condition : Bool) (i : Instr) : List Instr := if condition then [i] else []

/-- The events a channel has due (R4, R5, R11 to R13, R41). -/
def State.dueOfChannel (s : State) (c : Fin 32) : List Instr :=
  let x := s.chan c
  let held := x.isActive && x.settle ≤ x.qualification
  dueIf (held && !x.acquiring && x.input && !x.occupied) (.actuation c)
  ++ dueIf (held && !x.acquiring && !x.input && x.occupied) (.qualifiedFallingEdge c)
  ++ dueIf (held && x.acquiring) (.acquisition c)
  ++ dueIf (x.isActive && x.occupied && x.stuckOn * 6000 ≤ x.continuousOn) (.stuckOnExpiry c)
  ++ dueIf (s.silenceRuns c && x.silent * 6000 ≤ x.silence) (.silenceExpiry c)
  ++ dueIf (x.isActive && 100 ≤ x.windowPhase) (.chatterWindowEnd c)
  ++ (match x.duty with
      | .queue r => dueIf (s.queueRuns c r && (s.ramp r).queue.queueCheck * 10 ≤ x.queueTimer) (.queueCorrection c)
      | _ => [])

/-- The events a ramp has due (R43, R63, R74, R76, R77, R104). -/
def State.dueOfRamp (s : State) (r : Fin 4) : List Instr :=
  let x := s.ramp r
  dueIf (s.emptyRuns r && x.queue.armed && x.queue.emptyCheck * 10 ≤ x.queue.emptyTimer) (.emptyCorrection r)
  ++ dueIf (x.ctl.state ≠ .closed && x.ctl.interval * 10 ≤ x.ctl.elapsed) (.intervalClose r)
  ++ dueIf (x.ctl.override.any fun o => 6000 ≤ o.run) (.overrideExpiry r)
  ++ dueIf (x.ctl.state = .suspended && x.ctl.suspension.any fun p => 6000 ≤ p.run) (.suspensionExpiry r)
  ++ dueIf (x.ctl.state = .metering && x.ctl.holdOff ≠ 0 && 100 ≤ x.ctl.holdOffRun) (.holdOffEnd r)
  ++ dueIf (x.ctl.state = .metering && x.ready && x.sched.waiting.head?.any fun l => (s.lane l).state = .redReady)
      (.grant r)

/-- The events a lane has due (R114, R116, R134, R136, R139, R140, R142). -/
def State.dueOfLane (s : State) (l : Fin 8) : List Instr :=
  let x := s.lane l
  dueIf (x.state = .proving && x.sense = .dark && 100 ≤ x.clearRun) (.provingClear l)
  ++ dueIf (x.state = .proving && x.provingLeft = 0) (.provingWindowEnd l)
  ++ dueIf (x.state = .starting && x.timer = 0) (.startAmberExpiry l)
  ++ dueIf (x.state = .redMin && x.timer = 0) (.minRedExpiry l)
  ++ dueIf (x.state = .green && x.timer = 0) (.greenExpiry l)
  ++ dueIf (x.state = .amber && x.timer = 0) (.amberExpiry l)
  ++ dueIf (x.state = .flush && x.timer = 0) (.flushExpiry l)
  ++ dueIf (x.settle = some 0) (.senseSettleEnd l)
  ++ dueIf (s.redDoubted l) (.redSuspectOnset l)
  ++ dueIf (x.redSuspect && x.recheck = 0 && s.canRecheck l) (.redRecheck l)
  ++ dueIf x.conflictMark.isReached (.conflictQualified l)
  ++ dueIf (s.auxDoubted l) (.auxLampOut l)

/-- The events of the part as a whole that are due (R143, R144, R160). -/
def State.dueOfPart (s : State) : List Instr :=
  dueIf (s.lamp.present && !s.lamp.lsup && 10 ≤ s.lamp.supplyTimer) .supplyLoss
  ++ dueIf (!s.lamp.present && s.lamp.lsup && 200 ≤ s.lamp.supplyTimer) .supplyReturn
  ++ dueIf (s.sup.enable && s.sup.stage = .present && s.sup.t1 * 10 ≤ s.sup.timer) .stage1Onset
  ++ dueIf (s.sup.enable && s.sup.stage = .one && (s.sup.t1 + s.sup.t2) * 10 ≤ s.sup.timer) .stage2Onset

/-- The events that have fallen due in the state. -/
def State.due (s : State) : List Instr :=
  if s.resetting then []
  else
    s.dueOfPart ++ (List.finRange 32).flatMap s.dueOfChannel ++ (List.finRange 4).flatMap s.dueOfRamp
      ++ (List.finRange 8).flatMap s.dueOfLane

/-- The event taken first of those that have fallen due together: with more than one, the part's own choice (R172). -/
def choose (choices : Nat) (first : Instr) : List Instr → Instr
  | [] => first
  | second :: rest =>
    ((first :: second :: rest)[Config.arbiter choices % (rest.length + 2)]?).getD first

end Sys2Proof.Machine
end

