-- ==== Sys2Proof/Machine/Dispatch.lean ====
section
/-! DEFINITION. The meaning of every command: one arm for each constructor of Instr. -/

namespace Sys2Proof.Machine

def exec (i : Instr) (s : State) : Host.Outcome State Fault Refusal :=
  match i with
  | .readCaps => Sys2Proof.Machine.execReadCaps s
  | .readStatus => Sys2Proof.Machine.execReadStatus s
  | .keepalive token => Sys2Proof.Machine.execKeepalive token s
  | .supervisionSet enable t1 t2 => Sys2Proof.Machine.execSupervisionSet enable t1 t2 s
  | .setLock kind => Sys2Proof.Machine.execSetLock kind s
  | .clearCauses => Sys2Proof.Machine.execClearCauses s
  | .restartArm => Sys2Proof.Machine.execRestartArm s
  | .restart => Sys2Proof.Machine.execRestart s
  | .commandRestart => Sys2Proof.Machine.execCommandRestart s
  | .powerUpReset => Sys2Proof.Machine.execPowerUpReset s
  | .pinReset => Sys2Proof.Machine.execPinReset s
  | .clockLossReset => Sys2Proof.Machine.execClockLossReset s
  | .frameBegin => Sys2Proof.Machine.execFrameBegin s
  | .shortFrame => Sys2Proof.Machine.execShortFrame s
  | .badOpcode opcode => Sys2Proof.Machine.execBadOpcode opcode s
  | .detectorConfigure channel role binding settle stuckOn silent chatter => Sys2Proof.Machine.execDetectorConfigure channel role binding settle stuckOn silent chatter s
  | .detectorRead channel => Sys2Proof.Machine.execDetectorRead channel s
  | .detectorPark channel => Sys2Proof.Machine.execDetectorPark channel s
  | .detectorUnpark channel => Sys2Proof.Machine.execDetectorUnpark channel s
  | .detectorRestore channel => Sys2Proof.Machine.execDetectorRestore channel s
  | .planWrite plan fields => Sys2Proof.Machine.execPlanWrite plan fields s
  | .planRead plan => Sys2Proof.Machine.execPlanRead plan s
  | .planRetire plan => Sys2Proof.Machine.execPlanRetire plan s
  | .rampConfigure ramp interval capacity queuePos emptyCheck queueCheck holdOff => Sys2Proof.Machine.execRampConfigure ramp interval capacity queuePos emptyCheck queueCheck holdOff s
  | .rampRead ramp => Sys2Proof.Machine.execRampRead ramp s
  | .rampPlan ramp plan => Sys2Proof.Machine.execRampPlan ramp plan s
  | .rampStart ramp => Sys2Proof.Machine.execRampStart ramp s
  | .rampStop ramp => Sys2Proof.Machine.execRampStop ramp s
  | .rampSuspend ramp minutes => Sys2Proof.Machine.execRampSuspend ramp minutes s
  | .rampResume ramp => Sys2Proof.Machine.execRampResume ramp s
  | .rampOverride ramp rate minutes => Sys2Proof.Machine.execRampOverride ramp rate minutes s
  | .rampOverrideCancel ramp => Sys2Proof.Machine.execRampOverrideCancel ramp s
  | .rampClose ramp => Sys2Proof.Machine.execRampClose ramp s
  | .rampMode ramp mode => Sys2Proof.Machine.execRampMode ramp mode s
  | .laneConfigure lane ramp green amber minRed startAmber flush => Sys2Proof.Machine.execLaneConfigure lane ramp green amber minRed startAmber flush s
  | .laneRead lane => Sys2Proof.Machine.execLaneRead lane s
  | .laneEnable lane => Sys2Proof.Machine.execLaneEnable lane s
  | .laneDisable lane => Sys2Proof.Machine.execLaneDisable lane s
  | .laneRestore lane => Sys2Proof.Machine.execLaneRestore lane s
  | .faultRead => Sys2Proof.Machine.execFaultRead s
  | .faultClear mask => Sys2Proof.Machine.execFaultClear mask s
  | .alertMask mask => Sys2Proof.Machine.execAlertMask mask s
  | .lampSettings qualify recheckN => Sys2Proof.Machine.execLampSettings qualify recheckN s
  | .actuation channel => Sys2Proof.Machine.execActuation channel s
  | .qualifiedFallingEdge channel => Sys2Proof.Machine.execQualifiedFallingEdge channel s
  | .acquisition channel => Sys2Proof.Machine.execAcquisition channel s
  | .stuckOnExpiry channel => Sys2Proof.Machine.execStuckOnExpiry channel s
  | .silenceExpiry channel => Sys2Proof.Machine.execSilenceExpiry channel s
  | .chatterWindowEnd channel => Sys2Proof.Machine.execChatterWindowEnd channel s
  | .queueCorrection channel => Sys2Proof.Machine.execQueueCorrection channel s
  | .emptyCorrection ramp => Sys2Proof.Machine.execEmptyCorrection ramp s
  | .intervalClose ramp => Sys2Proof.Machine.execIntervalClose ramp s
  | .overrideExpiry ramp => Sys2Proof.Machine.execOverrideExpiry ramp s
  | .suspensionExpiry ramp => Sys2Proof.Machine.execSuspensionExpiry ramp s
  | .holdOffEnd ramp => Sys2Proof.Machine.execHoldOffEnd ramp s
  | .grant ramp => Sys2Proof.Machine.execGrant ramp s
  | .provingClear lane => Sys2Proof.Machine.execProvingClear lane s
  | .provingWindowEnd lane => Sys2Proof.Machine.execProvingWindowEnd lane s
  | .startAmberExpiry lane => Sys2Proof.Machine.execStartAmberExpiry lane s
  | .minRedExpiry lane => Sys2Proof.Machine.execMinRedExpiry lane s
  | .greenExpiry lane => Sys2Proof.Machine.execGreenExpiry lane s
  | .amberExpiry lane => Sys2Proof.Machine.execAmberExpiry lane s
  | .flushExpiry lane => Sys2Proof.Machine.execFlushExpiry lane s
  | .senseSettleEnd lane => Sys2Proof.Machine.execSenseSettleEnd lane s
  | .redSuspectOnset lane => Sys2Proof.Machine.execRedSuspectOnset lane s
  | .redRecheck lane => Sys2Proof.Machine.execRedRecheck lane s
  | .conflictQualified lane => Sys2Proof.Machine.execConflictQualified lane s
  | .auxLampOut lane => Sys2Proof.Machine.execAuxLampOut lane s
  | .supplyLoss => Sys2Proof.Machine.execSupplyLoss s
  | .supplyReturn => Sys2Proof.Machine.execSupplyReturn s
  | .stage1Onset => Sys2Proof.Machine.execStage1Onset s
  | .stage2Onset => Sys2Proof.Machine.execStage2Onset s
  | .resetEnd => Sys2Proof.Machine.execResetEnd s
  | .detectorInputChange channel high => Sys2Proof.Machine.execDetectorInputChange channel high s
  | .lampSenseChange lane red amber green => Sys2Proof.Machine.execLampSenseChange lane red amber green s
  | .lampSupplyInputChange high => Sys2Proof.Machine.execLampSupplyInputChange high s

end Sys2Proof.Machine
end

