-- ==== Sys2Proof/Machine/Step.lean ====
section
/-! DEFINITION. One step of the part: the command at the front of its queue, or, with none waiting, an event that has
fallen due, or 10 ms of its time. -/

namespace Sys2Proof.Machine

/-- What the part does by itself when no command waits: it takes an event that has fallen due (the part's own choice
when there are several, R172), and when none is due 10 ms pass. DESIGN CHOICE (notes/assumptions/3.md). -/
def idle (s : State) : Host.Outcome State Fault Refusal :=
  match s.due with
  | [] => .next s.advance
  | [only] => exec only s
  | first :: rest => exec (choose s.choices first rest) { s with choices := s.choices + 1 }

/-- One step. -/
def step (s : State) : Host.Outcome State Fault Refusal :=
  match s.pending with
  | [] => idle s
  | c :: rest => exec c { s with pending := rest }

/-- The command that a table word spells, put at the front of the queue. -/
def State.withFetchWord (s : State) (nbits w : Nat) : State :=
  match decodeTableWord nbits w with
  | none => s
  | some c => { s with pending := c :: s.pending }

end Sys2Proof.Machine
end

