-- ==== Sys2Proof/Safety.lean ====
section
/-! DEFINITION. What a sound state of the part is, and how a request is answered, in the words the statements use. -/

namespace Sys2Proof.Machine

/-! ## Requests and their answers -/

/-- The command is a request of the host, carried by one frame (section 12.5). -/
def isRequest (c : Instr) : Bool := (encodeFrame c).isSome

/-- The part in `s` once the frame of a request has been evaluated with this result and these reply bytes: they stand
for the host, the frame is in its reply phase, and the arming mark is clear (R165, R167, R168). -/
def State.answered (s : State) (result : Result) (reply : List Byte := []) : State :=
  { s with
    unit := { s.unit with armed := false }
    link := { s.link with phase := .reply, result := some result, reply := reply } }

/-- The result of a request that is taken: OK if every numeric operand was in its range, else CLAMPED (R171). -/
def takenIf (inRange : Prop) [Decidable inRange] : Result := if inRange then .ok else .clamped

/-- The `n` bytes of a reply from offset `k` on are the number `v`, most significant byte first (section 12.6). -/
def FieldAt (reply : List Byte) (k n v : Nat) : Prop :=
  ∀ i, i < n → reply[k + i]? = some (BitVec.ofNat 8 (v / 256 ^ (n - 1 - i)))

/-- The ramp is METERING, SUSPENDED or STOPPING. -/
def RampState.isUp : RampState → Bool
  | .metering | .suspended | .stopping => true
  | .closed | .standby => false

/-! ## Sound states -/

/-- The Fault Register keeps R150 and its field ranges: only kinds have flags, counts stay at 255, a filled record names a
capturing kind whose flag is set, and further-faults stands only beside a filled record. -/
def FaultRegister.Sound (f : FaultRegister) : Prop :=
  f.flags &&& ~~~kindBits = 0 ∧ f.mask &&& ~~~kindBits = 0
  ∧ (∀ i : Fin 13, f.counts[i] ≤ 255)
  ∧ (∀ x, f.first = some x → x.kind.capturing = true ∧ f.flag x.kind = true)
  ∧ (f.further = true → f.first.isSome = true)

/-- The supervision state keeps R157, R160 and R162: the SUPERVISION lock holds supervision on; supervision off means
stage 0 and a timer at 0; the stage agrees with the timer; and T1, T2 and the timer lie in their ranges. -/
def State.SupervisionSound (s : State) : Prop :=
  (s.locks.supervision = true → s.sup.enable = true)
  ∧ (s.sup.enable = false → s.sup.stage = .present ∧ s.sup.timer = 0)
  ∧ (s.sup.stage = .one → s.sup.t1 * 10 ≤ s.sup.timer)
  ∧ (s.sup.stage = .two → s.sup.timer = (s.sup.t1 + s.sup.t2) * 10)
  ∧ 10 ≤ s.sup.t1 ∧ s.sup.t1 ≤ 250 ∧ 60 ≤ s.sup.t2 ∧ s.sup.t2 ≤ 3600
  ∧ s.sup.timer ≤ (s.sup.t1 + s.sup.t2) * 10

/-- What R50 gives every DEFINED plan, and the FREE values too: the ranges of section 4.1, rate min at most rate max, rate
start and rate fallback between them, off occupancy below on occupancy. -/
def PlanFields.InRange (p : PlanFields) : Prop :=
  (50 ≤ p.target ∧ p.target ≤ 400) ∧ (1 ≤ p.gain ∧ p.gain ≤ 40)
  ∧ (120 ≤ p.rateMin ∧ p.rateMin ≤ 1800) ∧ (240 ≤ p.rateMax ∧ p.rateMax ≤ 3600)
  ∧ (p.rateMin ≤ p.rateStart ∧ p.rateStart ≤ p.rateMax)
  ∧ (p.rateMin ≤ p.rateFallback ∧ p.rateFallback ≤ p.rateMax)
  ∧ (60 ≤ p.maxWait ∧ p.maxWait ≤ 900) ∧ (100 ≤ p.spillOcc ∧ p.spillOcc ≤ 1000) ∧ p.spillStep ≤ 600
  ∧ p.onOcc ≤ 1000 ∧ (1 ≤ p.onCount ∧ p.onCount ≤ 10)
  ∧ p.offOcc ≤ 1000 ∧ (1 ≤ p.offCount ∧ p.offCount ≤ 30) ∧ p.offQueue ≤ 50
  ∧ p.rateMin ≤ p.rateMax ∧ p.offOcc < p.onOcc

/-- The Plan Table keeps R50 and R53: every plan in range, a FREE plan at its FREE values, every plan a ramp names
DEFINED; a CLOSED ramp names none, and a STANDBY ramp has none pending (R54, R59, R72). -/
def State.PlansSound (s : State) : Prop :=
  (∀ p, (s.plan p).fields.InRange ∧ ((s.plan p).defined = false → (s.plan p).fields = PlanFields.free))
  ∧ (∀ r p, ((s.ramp r).ctl.active = some p ∨ (s.ramp r).ctl.pending = some p) → (s.plan p).defined = true)
  ∧ (∀ r, s.rampState r = .closed → (s.ramp r).ctl.active = none ∧ (s.ramp r).ctl.pending = none)
  ∧ (∀ r, s.rampState r = .standby → (s.ramp r).ctl.pending = none)

/-- The bindings keep R3 and section 5.2: a channel with a role has a bound ramp that is not CLOSED, a bound lane's ramp
is not CLOSED, a ramp has at most four member lanes, and a channel is UNUSED exactly when its role is. -/
def State.BindingsSound (s : State) : Prop :=
  (∀ c, (s.chan c).duty ≠ .unused → ∃ r, s.boundRamp c = some r ∧ s.rampState r ≠ .closed)
  ∧ (∀ l r, (s.lane l).ramp = some r → s.rampState r ≠ .closed)
  ∧ (∀ r, (s.members r).length ≤ 4)
  ∧ (∀ c, (s.chan c).state = .unused ↔ (s.chan c).duty = .unused)

/-- The queue part lies in the ranges of section 3.1: the position at most the capacity (R33), and the stored count too
(R32). -/
def Queue.InRange (q : Queue) : Prop :=
  (5 ≤ q.capacity ∧ q.capacity ≤ 250) ∧ (1 ≤ q.position ∧ q.position ≤ q.capacity)
  ∧ (5 ≤ q.emptyCheck ∧ q.emptyCheck ≤ 60) ∧ (5 ≤ q.queueCheck ∧ q.queueCheck ≤ 60)
  ∧ q.stored ≤ q.capacity ∧ q.overflow ≤ 255 ∧ q.slip ≤ 255 ∧ q.corrections ≤ 255

/-- The queue parts keep R32 and R33: in range, the stored count 0 outside METERING and STOPPING, and spill INACTIVE outside
METERING. -/
def State.QueuesSound (s : State) : Prop :=
  ∀ r, (s.ramp r).queue.InRange
    ∧ (s.rampState r ≠ .metering → s.rampState r ≠ .stopping → (s.ramp r).queue.stored = 0)
    ∧ ((s.ramp r).queue.spill = true → s.rampState r = .metering)

/-- The optional parts of section 5.1, in their ranges: an override stands only in METERING (R73 to R75), a suspension remaining
exactly in SUSPENDED (R75, R76), and a hold-off runs only in METERING (R66, R75, R77). -/
def State.OptionsSound (s : State) : Prop :=
  ∀ r, (∀ o, (s.ramp r).ctl.override = some o →
      s.rampState r = .metering ∧ (60 ≤ o.rate ∧ o.rate ≤ 3600) ∧ (1 ≤ o.minutes ∧ o.minutes ≤ 240))
    ∧ ((s.ramp r).ctl.suspension.isSome = true ↔ s.rampState r = .suspended)
    ∧ (∀ p, (s.ramp r).ctl.suspension = some p → 1 ≤ p.minutes ∧ p.minutes ≤ 120)
    ∧ ((s.ramp r).ctl.holdOff ≠ 0 → s.rampState r = .metering)
    ∧ (s.ramp r).ctl.holdOff ≤ 900 ∧ (s.ramp r).ctl.suspendHoldOff ≤ 900

/-- The states of a lane that has not been stopped: it can still be served or light. -/
def LaneState.serves : LaneState → Bool
  | .proving | .starting | .redReady | .green | .resting | .supplyOut => true
  | .dark | .redMin | .amber | .flush | .faultLocked _ => false

/-- The display keeps R67, R118, R122, R123, R125 and R145: only a bound lane leaves DARK; a lane is lit or proving only
with the lamp supply present; a lane that is not DARK or FAULT_LOCKED is in service on a ramp that is METERING,
SUSPENDED or STOPPING; one that has not been stopped is able, on a METERING or SUSPENDED ramp; RED_READY stands only on a
METERING ramp, RESTING only on a SUSPENDED one; and only a lane that shows red is red-suspect (R139, R141). -/
def State.DisplaySound (s : State) : Prop :=
  ∀ l, ((s.lane l).state ≠ .dark → (s.lane l).ramp.isSome = true)
    ∧ ((s.lane l).isLit = true ∨ (s.lane l).state = .proving → s.lamp.present = true)
    ∧ ((s.lane l).isOut = false →
        (s.lane l).inService = true ∧ ∀ r, (s.lane l).ramp = some r → (s.rampState r).isUp = true)
    ∧ ((s.lane l).state.serves = true →
        (s.lane l).able = true ∧ ∀ r, (s.lane l).ramp = some r → s.rampRuns r = true)
    ∧ ((s.lane l).state = .redReady → ∀ r, (s.lane l).ramp = some r → s.rampState r = .metering)
    ∧ ((s.lane l).state = .resting → ∀ r, (s.lane l).ramp = some r → s.rampState r = .suspended)
    ∧ ((s.lane l).redSuspect = true → (s.lane l).isRed = true)

/-- The waiting lists keep R101 to R103: no lane twice, and on a ramp's list exactly the lanes that meet the conditions of
R102. -/
def State.WaitingSound (s : State) : Prop :=
  ∀ r, (s.ramp r).sched.waiting.Nodup ∧ ∀ l, l ∈ (s.ramp r).sched.waiting ↔ s.calls r l = true

/-- The timings of a lane lie in the ranges of section 8.1. -/
def LaneTimings.InRange (t : LaneTimings) : Prop :=
  (10 ≤ t.green ∧ t.green ≤ 40) ∧ (10 ≤ t.amber ∧ t.amber ≤ 40) ∧ (15 ≤ t.minRed ∧ t.minRed ≤ 300)
  ∧ (30 ≤ t.startAmber ∧ t.startAmber ≤ 150) ∧ (50 ≤ t.flushGreen ∧ t.flushGreen ≤ 1200)

/-- A METERING or SUSPENDED ramp has an active plan and at least one able lane, and no member lane locked out with CONFLICT
(R68). -/
def State.MayMeter (s : State) (r : Fin 4) : Prop :=
  (s.ramp r).ctl.active.isSome = true ∧ s.ableLanes r ≠ []
  ∧ ∀ l ∈ s.members r, (s.lane l).state ≠ .faultLocked .conflict

/-- Metering keeps R68, R82, R83, R92, R94 and R107: lane timings in range; the ceiling of a ramp is what its able lanes can
serve; a METERING or SUSPENDED ramp may meter, and its final rate lies in 94 to the ceiling with the headway
that belongs to it; and a ramp that entered METERING at this moment has since-last-grant at the headway handed over last. -/
def State.MeteringSound (s : State) : Prop :=
  (∀ l, (s.lane l).timings.InRange)
  ∧ (∀ r, (s.ramp r).rate.ceiling = s.ceilingOf r)
  ∧ (∀ r, s.rampRuns r = true → s.MayMeter r ∧ 94 ≤ (s.ramp r).rate.final
      ∧ (s.ramp r).rate.final ≤ (s.ramp r).rate.ceiling
      ∧ (s.ramp r).rate.headway = ceilDiv 36000 (s.ramp r).rate.final)
  ∧ (∀ r, (s.ramp r).sched.fresh = true →
      s.rampState r = .metering ∧ (s.ramp r).sched.sinceGrant = (s.ramp r).rate.headway)

/-- While a restart is pending every ramp is STANDBY or CLOSED (R166). -/
def State.RestartSound (s : State) : Prop :=
  s.unit.restartPending = true → ∀ r, (s.rampState r).isUp = false

/-! ## What an event leaves of a ramp, a channel or a lane -/

/-- The record of ramp `r` formed anew from `x` once an event of its lanes or channels has left the part in `t`: its
waiting list keeps, in their order, the lanes that still meet the conditions and takes those that came to meet them at
its tail (R102, R103); its empty timer and armed mark follow the watched channels (R42, R43). DESIGN CHOICE: lanes that came to
meet the conditions together join in the order of their numbers (notes/assumptions/15.md), and outside METERING the armed mark is
not set (21.md). -/
def Ramp.reformed (t : State) (r : Fin 4) (x : Ramp) : Ramp :=
  { x with
    sched := { x.sched with
      waiting := x.sched.waiting.filter (t.calls r)
        ++ (List.finRange 8).filter fun l => t.calls r l && !x.sched.waiting.contains l }
    queue := { x.queue with
      emptyTimer := if t.emptyRuns r then x.queue.emptyTimer else 0
      armed := x.queue.armed || (t.rampState r = .metering && t.watchedOccupied r) } }

/-- `Ramp.reformed`, with entry-degraded formed anew too (R35). -/
def Ramp.reformedEntry (t : State) (r : Fin 4) (x : Ramp) : Ramp :=
  { x.reformed t r with
    queue := { (x.reformed t r).queue with
      entryDegraded := t.rampState r ≠ .closed && !t.someActive (.entry r) } }

/-- A change of channel `c` that took the part from `s` to `t`, the Fault Register apart: no other channel is changed, and
the ramps the channel served before and serves after form their lists, timers and entry-degraded anew; nothing else
moves. -/
def ChannelChanged (c : Fin 32) (s t : State) : Prop :=
  t = { s with channels := t.channels, ramps := t.ramps, faults := t.faults }
  ∧ (∀ i, i ≠ c → t.chan i = s.chan i)
  ∧ ∀ r, t.ramp r =
      if s.boundRamp c = some r ∨ t.boundRamp c = some r then (s.ramp r).reformedEntry t r else s.ramp r

/-- The channel with its configuration kept and every dynamic field at its full-reset value (section 1.1). -/
def Channel.cleared (c : Channel) : Channel :=
  { Channel.fullReset c.input with
    duty := c.duty, settle := c.settle, stuckOn := c.stuckOn, silent := c.silent, chatter := c.chatter }

/-- The run counters that a return to stage 0 leaves a ramp: 0 where the effective mode changes, which it does in mode
HOST when the stage was 1 or 2 (R69, R161). -/
def runsAfterReturn (s : State) (x : Ramp) : Ramp :=
  if s.sup.stage ≠ .present ∧ x.ctl.mode = .host then { x with ctl := { x.ctl with onRun := 0, offRun := 0 } } else x

/-- The Scheduler state of a ramp once the headway `new` has been handed over in place of `old`: since-last-grant stands, but
at the moment at which the ramp entered METERING a changed headway is its new value (R100, R107; what that moment is:
notes/assumptions/22.md). -/
def Scheduler.handed (old new : Nat) (x : Scheduler) : Scheduler :=
  if x.fresh = true ∧ new ≠ old then { x with sinceGrant := new } else x

/-- The lane's sense levels meet a conflict condition: it is bound and not in SUPPLY_OUT, and its green sense is high while
green is not commanded or while its red sense is high too (R136). -/
abbrev Lane.InConflict (x : Lane) : Prop :=
  x.ramp ≠ none ∧ x.state ≠ .supplyOut ∧ x.sense.green = true ∧ (x.aspect ≠ .green ∨ x.sense.red = true)

/-- Every member lane of `r` is DARK or FAULT_LOCKED (R67). -/
def EveryLaneOut (s : State) (r : Fin 4) : Prop := ∀ l, (s.lane l).ramp = some r → (s.lane l).isOut = true

/-- The Ramp Control part of a ramp at its entry to STOPPING (R66). -/
def RampControl.stopping (x : RampControl) : RampControl :=
  { x with
    state := .stopping, override := none, suspension := none, holdOff := 0, holdOffRun := 0, onRun := 0, offRun := 0 }

/-- The Ramp Control part of a ramp at its entry to STANDBY from STOPPING (R67, R54). -/
def RampControl.standing (x : RampControl) : RampControl :=
  { x with state := .standby, active := x.pending.or x.active, pending := none, onRun := 0, offRun := 0 }

/-- Ramp `r`, STOPPING in `s` with every member lane DARK or FAULT_LOCKED, has entered STANDBY in `t` (R67, R32, R54). -/
def StoodBy (r : Fin 4) (s t : State) : Prop :=
  t = { s with ramps := t.ramps, channels := t.channels }
  ∧ (∀ i, i ≠ r → t.ramp i = s.ramp i)
  ∧ t.ramp r =
      { s.ramp r with
        ctl := (s.ramp r).ctl.standing
        queue := { (s.ramp r).queue with stored := 0, spill := false, emptyTimer := 0, armed := false } }
  ∧ ∀ c, t.chan c =
      if (s.chan c).duty = .queue r then { s.chan c with queueTimer := 0, served := false } else s.chan c

/-- Ramp `r`, METERING or SUSPENDED in `s`, has entered STOPPING in `t`, its lanes on their stop paths (R66, R123). -/
def EnteredStopping (r : Fin 4) (s t : State) : Prop :=
  t = { s with ramps := t.ramps, lanes := t.lanes }
  ∧ (∀ i, i ≠ r → t.ramp i = s.ramp i)
  ∧ t.ramp r =
      { s.ramp r with
        ctl := (s.ramp r).ctl.stopping
        queue := { (s.ramp r).queue with spill := false, emptyTimer := 0 }
        sched := { (s.ramp r).sched with waiting := [], fresh := false } }
  ∧ ∀ l, t.lane l = if (s.lane l).ramp = some r then (s.lane l).stopPath else s.lane l

/-- Ramp `r`, METERING or SUSPENDED in `s`, has been stopped in `t`: it is STOPPING, and STANDBY at once if no member lane
is left on the display (R66, R67). -/
def Stopped (r : Fin 4) (s t : State) : Prop :=
  ∃ u, EnteredStopping r s u ∧ (EveryLaneOut u r → StoodBy r u t) ∧ (¬ EveryLaneOut u r → t = u)

/-- Ramp `r`, STANDBY in `s` with every member lane DARK or FAULT_LOCKED, has entered METERING in `t` with this rate start
(R65, R84, R107, R32, R12, R115). -/
def Started (r : Fin 4) (rateStart : Nat) (s t : State) : Prop :=
  t = { s with ramps := t.ramps, lanes := t.lanes, channels := t.channels }
  ∧ (∀ i, i ≠ r → t.ramp i = s.ramp i)
  ∧ t.ramp r =
      { s.ramp r with
        ctl := { (s.ramp r).ctl with
          state := .metering, override := none, suspension := none, holdOff := 0, holdOffRun := 0
          onRun := 0, offRun := 0 }
        queue := { (s.ramp r).queue with
          stored := 0, spill := false, overflow := 0, slip := 0, corrections := 0, emptyTimer := 0, armed := true }
        rate :=
          { final := min rateStart (s.ramp r).rate.ceiling
            headway := ceilDiv 36000 (min rateStart (s.ramp r).rate.ceiling)
            decision := .start, e := 0, r1 := 0, r2 := 0, rWait := 0, rSpill := 0
            ceiling := (s.ramp r).rate.ceiling }
        sched :=
          { waiting := [], sinceGrant := ceilDiv 36000 (min rateStart (s.ramp r).rate.ceiling), fresh := true } }
  ∧ (∀ l, t.lane l =
      if (s.lane l).ramp = some r ∧ (s.lane l).state = .dark ∧ (s.lane l).able = true then
        (s.lane l).enter (if s.lamp.present then .proving else .supplyOut)
      else s.lane l)
  ∧ ∀ c, t.chan c =
      { s.chan c with
        queueTimer := if (s.chan c).duty = .queue r then 0 else (s.chan c).queueTimer
        served := if (s.chan c).duty = .queue r then false else (s.chan c).served
        silence := if s.boundRamp c = some r ∧ (s.chan c).state = .active then 0 else (s.chan c).silence }

/-- The first start condition of R64 that fails, the state apart: a plan, an able lane, no CONFLICT, stage below 2. -/
def StartFails (s : State) (r : Fin 4) : Option Result :=
  if (s.ramp r).ctl.active = none then some .undefined
  else if s.ableLanes r = [] then some .undefined
  else if ∃ l, (s.lane l).ramp = some r ∧ (s.lane l).state = .faultLocked .conflict then some .lockedOut
  else if s.sup.stage = .two then some .supervision
  else none

/-- The queue part of ramp `r` after an actuation of a channel with duty `d` whose bound lane, if any, is on ramp `bound`:
an ENTRY raises the stored count or the overflow count, a PASSAGE lowers the stored count or raises the slip count, while
the ramp is METERING or STOPPING (R34, R37). -/
def Queue.afterActuation (d : Duty) (bound : Option (Fin 4)) (state : RampState) (r : Fin 4) (q : Queue) : Queue :=
  if state = .metering ∨ state = .stopping then
    match d with
    | .entry i =>
      if i ≠ r then q
      else if q.stored < q.capacity then { q with stored := q.stored + 1 }
      else { q with overflow := min (q.overflow + 1) 255 }
    | .passage _ =>
      if bound ≠ some r then q
      else if q.stored = 0 then { q with slip := min (q.slip + 1) 255 }
      else { q with stored := q.stored - 1 }
    | .unused | .mainline _ | .queue _ | .demand _ => q
  else q

/-- Steps 1 to 5 of an interval close (R63): latch, station, pending plan, spill and rate. -/
def State.closeMeasured (s : State) (r : Fin 4) : State :=
  ((((s.modCtl r fun c => { c with elapsed := 0 }).latchChannels r).formStation r).applyPending r).meterClose r

end Sys2Proof.Machine
end

