-- ==== Sys2Proof/Certificates/Slice0/Obligations.lean ====
section
/-! DEFINITION. The statements about the Vicmerra 408 for the provers. Each docstring names the rules of spec/ the statement
formalises, or the log entry of the model's choice it rests on. -/

open Sys2Proof Sys2Proof.Machine

/-! ## The part as a whole -/

/-- A step takes the command at the front of the queue and runs it with the queue's rest (R172: a request is taken as one
event). -/
def Obligations.StepTakesFrontCommand : Prop :=
  ∀ (s : State) (c : Instr) (rest : List Instr),
    s.pending = c :: rest → step s = exec c { s with pending := rest }

/-- With no command waiting, a step takes an event that has fallen due, any one of them when there are several (R172),
and lets 10 ms pass when none has. The model's choice: notes/assumptions/2.md and 3.md. An event is due exactly when its own
timer or condition stands at the limit of its rule (R4, R5, R11, R12, R13, R41, R43, R63, R74, R76, R77, R104, R114, R116,
R134, R136, R139 to R144, R160), nothing else falls due, and nothing at all in a reset. That the end of the settle is an event
of its own is the model's reading, notes/assumptions/17.md, and that a re-check waits for the settle is notes/assumptions/10.md. -/
def Obligations.IdleStepTakesADueEvent : Prop :=
  (∀ s : State, s.pending = [] →
    (s.due = [] → step s = .next s.advance)
    ∧ (∀ e, s.due = [e] → step s = exec e s)
    ∧ (2 ≤ s.due.length → ∃ e ∈ s.due, step s = exec e { s with choices := s.choices + 1 }))
  ∧ (∀ s : State, s.resetting = true → s.due = [])
  ∧ ∀ s : State, s.resetting = false →
    (∀ c : Fin 32,
      let x := s.chan c
      let held := x.state = .active ∧ x.settle ≤ x.qualification
      (.actuation c ∈ s.due ↔ held ∧ x.acquiring = false ∧ x.input = true ∧ x.occupied = false)
      ∧ (.qualifiedFallingEdge c ∈ s.due ↔ held ∧ x.acquiring = false ∧ x.input = false ∧ x.occupied = true)
      ∧ (.acquisition c ∈ s.due ↔ held ∧ x.acquiring = true)
      ∧ (.stuckOnExpiry c ∈ s.due ↔ x.state = .active ∧ x.occupied = true ∧ x.stuckOn * 6000 ≤ x.continuousOn)
      ∧ (.silenceExpiry c ∈ s.due ↔
          x.state = .active ∧ x.silent ≠ 0 ∧ (∃ r, s.boundRamp c = some r ∧ s.rampRuns r = true)
          ∧ x.silent * 6000 ≤ x.silence)
      ∧ (.chatterWindowEnd c ∈ s.due ↔ x.state = .active ∧ 100 ≤ x.windowPhase)
      ∧ (.queueCorrection c ∈ s.due ↔ ∃ r, x.duty = .queue r ∧ x.state = .active ∧ x.occupied = true ∧ x.served = false
          ∧ (s.rampState r = .metering ∨ s.rampState r = .stopping)
          ∧ (s.ramp r).queue.queueCheck * 10 ≤ x.queueTimer))
    ∧ (∀ r : Fin 4,
      let x := s.ramp r
      (.emptyCorrection r ∈ s.due ↔
          s.emptyRuns r = true ∧ x.queue.armed = true ∧ x.queue.emptyCheck * 10 ≤ x.queue.emptyTimer)
      ∧ (.intervalClose r ∈ s.due ↔ s.rampState r ≠ .closed ∧ x.ctl.interval * 10 ≤ x.ctl.elapsed)
      ∧ (.overrideExpiry r ∈ s.due ↔ ∃ o, x.ctl.override = some o ∧ 6000 ≤ o.run)
      ∧ (.suspensionExpiry r ∈ s.due ↔ s.rampState r = .suspended ∧ ∃ o, x.ctl.suspension = some o ∧ 6000 ≤ o.run)
      ∧ (.holdOffEnd r ∈ s.due ↔ s.rampState r = .metering ∧ x.ctl.holdOff ≠ 0 ∧ 100 ≤ x.ctl.holdOffRun)
      ∧ (.grant r ∈ s.due ↔ s.rampState r = .metering ∧ x.rate.headway ≤ x.sched.sinceGrant
          ∧ ∃ l rest, x.sched.waiting = l :: rest ∧ (s.lane l).state = .redReady))
    ∧ (∀ l : Fin 8,
      let x := s.lane l
      let settled := x.ramp = none ∨ x.settle = none ∨ x.settle = some 0
      (.provingClear l ∈ s.due ↔ x.state = .proving ∧ x.sense = Lamps.dark ∧ 100 ≤ x.clearRun)
      ∧ (.provingWindowEnd l ∈ s.due ↔ x.state = .proving ∧ x.provingLeft = 0)
      ∧ (.startAmberExpiry l ∈ s.due ↔ x.state = .starting ∧ x.timer = 0)
      ∧ (.minRedExpiry l ∈ s.due ↔ x.state = .redMin ∧ x.timer = 0)
      ∧ (.greenExpiry l ∈ s.due ↔ x.state = .green ∧ x.timer = 0)
      ∧ (.amberExpiry l ∈ s.due ↔ x.state = .amber ∧ x.timer = 0)
      ∧ (.flushExpiry l ∈ s.due ↔ x.state = .flush ∧ x.timer = 0)
      ∧ (.senseSettleEnd l ∈ s.due ↔ x.settle = some 0)
      ∧ (.redSuspectOnset l ∈ s.due ↔ x.ramp ≠ none ∧ (x.state = .redMin ∨ x.state = .redReady) ∧ settled
          ∧ x.redSuspect = false ∧ s.lamp.lsup = true ∧ x.sense.red = false)
      ∧ (.redRecheck l ∈ s.due ↔ x.redSuspect = true ∧ x.recheck = 0 ∧ s.lamp.lsup = true ∧ settled)
      ∧ (.conflictQualified l ∈ s.due ↔ ∃ detail, x.conflictMark = .reached detail)
      ∧ (.auxLampOut l ∈ s.due ↔
          (x.aspect = .amber ∧ x.sense.amber = false ∨ x.aspect = .green ∧ x.sense.green = false)
          ∧ x.auxMark = false ∧ settled ∧ s.lamp.lsup = true))
    ∧ (.supplyLoss ∈ s.due ↔ s.lamp.present = true ∧ s.lamp.lsup = false ∧ 10 ≤ s.lamp.supplyTimer)
    ∧ (.supplyReturn ∈ s.due ↔ s.lamp.present = false ∧ s.lamp.lsup = true ∧ 200 ≤ s.lamp.supplyTimer)
    ∧ (.stage1Onset ∈ s.due ↔ s.sup.enable = true ∧ s.sup.stage = .present ∧ s.sup.t1 * 10 ≤ s.sup.timer)
    ∧ (.stage2Onset ∈ s.due ↔ s.sup.enable = true ∧ s.sup.stage = .one ∧ (s.sup.t1 + s.sup.t2) * 10 ≤ s.sup.timer)
    ∧ ∀ e ∈ s.due, isRequest e = false
        ∧ e ∉ [.commandRestart, .powerUpReset, .pinReset, .clockLossReset, .resetEnd, .frameBegin, .shortFrame]
        ∧ (∀ c high, e ≠ .detectorInputChange c high) ∧ (∀ l red amber green, e ≠ .lampSenseChange l red amber green)
        ∧ ∀ high, e ≠ .lampSupplyInputChange high

/-- Every well-formed command completes in every state, a refused request too (chapter 12), and no command touches the queue
or the model's own counter of choices; a BAD_OPCODE whose opcode is in the table is no command and is refused by name
(notes/assumptions/16.md). -/
def Obligations.EveryCommandCompletes : Prop :=
  (∀ (c : Instr) (s : State), c.wellFormed = true →
    ∃ t, exec c s = .next t ∧ t.pending = s.pending ∧ t.choices = s.choices)
  ∧ ∀ (op : Byte) (s : State), op ∈ knownOpcodes → exec (.badOpcode op) s = .refused .opcodeKnown

/-- What the host sends for a request is read back as that request, with every operand at every value its bytes admit;
bytes after the last operand are ignored, and no shorter run of bytes is a request yet (R167, R170, section 12.5). -/
def Obligations.FrameBytesReadBack : Prop :=
  ∀ (c : Instr) (bytes : List Byte), c.wellFormed = true → encodeFrame c = some bytes →
    (∀ more, decodeFrame (bytes ++ more) = some c)
    ∧ ∀ n, n < bytes.length → decodeFrame (bytes.take n) = none

/-- A refused request changes no record apart from the arming mark, which its frame clears (R171); a request that the part
cannot receive changes no record either: in the frame of an accepted RESTART nothing at all, and in a reset only that its
fall of CS_N leaves the part waiting for a rise (R163, R166, R167; the form is the model's choice, notes/assumptions/7.md).
That a request sent while the part waits for CS_N to rise is a new frame, with that rise before it, is the model's choice
too: 6.md. The part receives a frame exactly outside a reset and with no RESTART pending. -/
def Obligations.RefusedRequestChangesNothing : Prop :=
  (∀ (c : Instr) (s t : State), isRequest c = true → s.hears = true → exec c s = .next t →
    t.link.result ≠ some .ok → t.link.result ≠ some .clamped →
    t = { s with unit := { s.unit with armed := false }, link := t.link })
  ∧ (∀ (c : Instr) (s : State), isRequest c = true → c.wellFormed = true → s.hears = false →
    exec c s = .next { s with link := { s.link with phase := if s.resetting then .waitRise else s.link.phase } })
  ∧ ∀ s : State, s.hears = true ↔ s.resetting = false ∧ s.unit.restartPending = false

/-- 10 ms of an idle part, record by record. The uptime second (R163), the tick every 100 ms, and at a tick the timers that
count in ticks: interval elapsed (R63), since-last-grant (R99), the state timers (R114), the supervision timer (R157), the
queue timer (R40) and the empty timer (R42). At every sample the qualification timer (R4, R5), on-time (R7), continuous-on
(R11), silence (R12), the chatter window (R13), the minutes of an override and a suspension (R74, R76), the hold-off (R77),
the settle (R134), the proving window, the clear run and the seen set (R116, R135), the conflict timer (R136), the re-check
timer (R140) and the supply timer (R143, R144). Nothing else moves, and nothing in a reset. The model's choices: the 10 ms
runs of larger units (notes/assumptions/14.md), a qualification timer that does not run standing at 0 (13.md), the conflict
timer that holds at the qualify time in force (20.md), and the items of the present moment, which the sample ends (4.md,
5.md, 22.md, 23.md). -/
def Obligations.TimePasses : Prop :=
  (∀ s : State, s.resetting = true → s.advance = s)
  ∧ ∀ s : State, s.resetting = false → s.tickPhase ≤ 9 →
    let t := s.advance
    let tick := s.tickPhase = 9
    t = { s with
        channels := t.channels, ramps := t.ramps, lanes := t.lanes
        lamp := { s.lamp with supplyTimer := t.lamp.supplyTimer }
        sup := { s.sup with timer := t.sup.timer, keptAlive := false }
        unit := { s.unit with uptime := t.unit.uptime, uptimeRun := t.unit.uptimeRun }
        tickPhase := if tick then 0 else s.tickPhase + 1 }
    ∧ (t.unit.uptime = if s.unit.uptimeRun + 1 < 100 then s.unit.uptime else min (s.unit.uptime + 1) 4294967295)
    ∧ (t.unit.uptimeRun = if s.unit.uptimeRun + 1 < 100 then s.unit.uptimeRun + 1 else 0)
    ∧ (t.sup.timer =
        if s.sup.enable = false then 0
        else if tick then min ((s.sup.t1 + s.sup.t2) * 10) (s.sup.timer + 1) else s.sup.timer)
    ∧ (t.lamp.supplyTimer =
        if s.lamp.lsup = s.lamp.present then 0
        else min (if s.lamp.present then 10 else 200) (s.lamp.supplyTimer + 1))
    ∧ (∀ c : Fin 32,
        let x := s.chan c
        t.chan c = { x with
          qualification :=
            if x.state = .active ∧ (x.acquiring = true ∨ x.input ≠ x.occupied) then min 10 (x.qualification + 1) else 0
          onTime := (t.chan c).onTime
          continuousOn :=
            if x.state = .active ∧ x.occupied = true then min (x.stuckOn * 6000) (x.continuousOn + 1) else x.continuousOn
          silence :=
            if x.state = .active ∧ x.silent ≠ 0 ∧ (∃ r, s.boundRamp c = some r ∧ s.rampRuns r = true) then
              min (x.silent * 6000) (x.silence + 1)
            else x.silence
          windowPhase := if x.state = .active then min 100 (x.windowPhase + 1) else x.windowPhase
          queueTimer :=
            if tick ∧ x.state = .active ∧ x.occupied = true ∧ x.served = false
                ∧ (∃ r, x.duty = .queue r ∧ (s.rampState r = .metering ∨ s.rampState r = .stopping)) then
              min 600 (x.queueTimer + 1)
            else x.queueTimer }
        ∧ (∀ r, s.boundRamp c = some r → x.state = .active → x.occupied = true → s.rampState r ≠ .closed →
            (t.chan c).onTime = min ((s.ramp r).ctl.interval * 100) (x.onTime + 1))
        ∧ (x.state ≠ .active ∨ x.occupied = false ∨ (∀ r, s.boundRamp c = some r → s.rampState r = .closed) →
            (t.chan c).onTime = x.onTime))
    ∧ (∀ r : Fin 4,
        let x := s.ramp r
        t.ramp r = { x with
          ctl := { x.ctl with
            elapsed := if tick ∧ x.ctl.state ≠ .closed then min (x.ctl.interval * 10) (x.ctl.elapsed + 1) else x.ctl.elapsed
            override := x.ctl.override.map fun o =>
              if o.run + 1 < 6000 then { o with run := o.run + 1 }
              else if 1 < o.minutes then { o with minutes := o.minutes - 1, run := 0 }
              else { o with run := 6000 }
            suspension := x.ctl.suspension.map fun o =>
              if o.run + 1 < 6000 then { o with run := o.run + 1 }
              else if 1 < o.minutes then { o with minutes := o.minutes - 1, run := 0 }
              else { o with run := 6000 }
            holdOff :=
              if x.ctl.state = .metering ∧ 1 < x.ctl.holdOff ∧ 100 ≤ x.ctl.holdOffRun + 1 then x.ctl.holdOff - 1
              else x.ctl.holdOff
            holdOffRun :=
              if x.ctl.state ≠ .metering ∨ x.ctl.holdOff = 0 then x.ctl.holdOffRun
              else if x.ctl.holdOffRun + 1 < 100 then x.ctl.holdOffRun + 1
              else if 1 < x.ctl.holdOff then 0 else 100 }
          queue := { x.queue with
            emptyTimer :=
              if s.emptyRuns r = false then 0
              else if tick then min (x.queue.emptyCheck * 10) (x.queue.emptyTimer + 1) else x.queue.emptyTimer }
          sched := { x.sched with
            sinceGrant :=
              if tick ∧ x.ctl.state = .metering then min 6000 (x.sched.sinceGrant + 1) else x.sched.sinceGrant
            fresh := false } })
    ∧ ∀ l : Fin 8,
        let x := s.lane l
        let y := t.lane l
        let proves := x.ramp ≠ none ∧ x.state = .proving
        y = { x with
          settle := x.settle.map fun k => k - 1, recheck := x.recheck - 1, timer := y.timer, provingLeft := y.provingLeft
          clearRun := y.clearRun, seen := y.seen, conflict := y.conflict, conflictMark := y.conflictMark
          conflictBefore := if x.ramp = none then x.conflictBefore else x.conflict
          markBefore := if x.ramp = none then x.markBefore else x.conflictMark }
        ∧ (¬ proves →
            y.timer = (if tick ∧ (x.state = .starting ∨ x.state = .redMin ∨ x.state = .green ∨ x.state = .amber
                ∨ x.state = .flush) then x.timer - 1 else x.timer)
            ∧ y.provingLeft = x.provingLeft ∧ y.clearRun = x.clearRun ∧ y.seen = x.seen)
        ∧ (proves →
            y.provingLeft = x.provingLeft - 1 ∧ y.timer = (x.provingLeft - 1 + 9) / 10
            ∧ y.clearRun = (if x.sense = Lamps.dark then min 100 (x.clearRun + 1) else 0)
            ∧ y.seen = { red := x.seen.red || x.sense.red, amber := x.seen.amber || x.sense.amber
                         green := x.seen.green || x.sense.green })
        ∧ (x.ramp = none → y.conflict = x.conflict ∧ y.conflictMark = x.conflictMark)
        ∧ (x.ramp ≠ none → ¬ x.InConflict → y.conflict = 0 ∧ y.conflictMark = .counting)
        ∧ (x.InConflict → x.conflictMark = .taken → y.conflict = s.lamp.qualify ∧ y.conflictMark = .taken)
        ∧ (x.InConflict → x.conflictMark ≠ .taken → y.conflict = min s.lamp.qualify (x.conflict + 1)
            ∧ y.conflictMark =
                if s.lamp.qualify ≤ x.conflict + 1 then .reached (if x.aspect ≠ .green then 1 else 2) else .counting)

/-! ## The command link -/

/-- READ CAPS returns the 16 fixed bytes and changes nothing else (R173). -/
def Obligations.ReadCapsReply : Prop :=
  ∀ s : State, s.hears = true →
    exec .readCaps s = .next (s.answered .ok
      [0x56, 0x01, 0x04, 0x08, 0x20, 0x10, 0x04, 0x64, 0x0E, 0x10, 0x0D, 0x0A, 0x01, 0x7F, 0x0A, 0x00])

/-- READ STATUS returns eight bytes formed from the state as it stands, the arming included, and then clears the arming
(R174, section 12.6). -/
def Obligations.ReadStatusReply : Prop :=
  ∀ s : State, s.hears = true → s.unit.uptime ≤ 4294967295 → s.link.shortFrames ≤ 255 →
    ∃ b0 b1 b2 b3 b4 b5 b6 b7 : Byte,
      exec .readStatus s = .next (s.answered .ok [b0, b1, b2, b3, b4, b5, b6, b7])
      ∧ b0.toNat = (match s.sup.stage with | .present => 0 | .one => 1 | .two => 2)
      ∧ b1.getLsbD 0 = s.unit.causes.power ∧ b1.getLsbD 1 = s.unit.causes.pin
      ∧ b1.getLsbD 2 = s.unit.causes.clock ∧ b1.getLsbD 3 = s.unit.causes.command ∧ b1.toNat < 16
      ∧ b2.getLsbD 0 = s.locks.supervision ∧ b2.getLsbD 1 = s.locks.timing ∧ b2.getLsbD 2 = s.lamp.present
      ∧ b2.getLsbD 3 = s.unit.armed ∧ b2.getLsbD 4 = (s.faults.flags &&& s.faults.mask != 0)
      ∧ b2.getLsbD 5 = s.faults.further ∧ b2.getLsbD 6 = s.sup.enable ∧ b2.toNat < 128
      ∧ b3.toNat * 16777216 + b4.toNat * 65536 + b5.toNat * 256 + b6.toNat = s.unit.uptime
      ∧ b7.toNat = s.link.shortFrames

/-- A fall of CS_N begins a frame (R167); a rise before the request is evaluated, the one that a second fall implies too, is
a short frame, counted up to 255, and a rise in the reply phase ends a complete frame without touching the count (R169); an
opcode outside the table is a complete frame refused with BAD_OPCODE (R170). The model's choices: FRAME_BEGIN with CS_N low
stands for the rise before it and SHORT_FRAME with CS_N high for its fall (notes/assumptions/6.md); FRAME_BEGIN and
SHORT_FRAME while a RESTART is pending change nothing (7.md); in a reset FRAME_BEGIN leaves the part waiting for a rise, and
in a reset or in that wait SHORT_FRAME is that rise and counts nothing, while FRAME_BEGIN and BAD_OPCODE in that wait are
the fall of a new frame, with the rise before it (6.md, 7.md, 18.md). -/
def Obligations.FrameBoundaries : Prop :=
  (∀ s : State, s.hears = true →
    exec .frameBegin s = .next { s with link :=
      { phase := .receiving
        shortFrames := if s.link.phase = .receiving then min (s.link.shortFrames + 1) 255 else s.link.shortFrames
        result := none, reply := [] } })
  ∧ (∀ s : State, s.resetting = true →
    exec .frameBegin s = .next { s with link := { s.link with phase := .waitRise } })
  ∧ (∀ s : State, s.hears = true → s.link.phase = .idle ∨ s.link.phase = .receiving →
    exec .shortFrame s = .next { s with link :=
      { phase := .idle, shortFrames := min (s.link.shortFrames + 1) 255, result := none, reply := [] } })
  ∧ (∀ s : State, s.hears = true → s.link.phase = .reply →
    exec .shortFrame s = .next { s with link :=
      { phase := .idle, shortFrames := s.link.shortFrames, result := none, reply := [] } })
  ∧ (∀ s : State, s.resetting = true ∨ s.link.phase = .waitRise →
    exec .shortFrame s = .next { s with link := { s.link with phase := .idle } })
  ∧ (∀ s : State, s.resetting = false → s.unit.restartPending = true →
    exec .frameBegin s = .next s ∧ (s.link.phase ≠ .waitRise → exec .shortFrame s = .next s))
  ∧ (∀ (s : State) (op : Byte), op ∉ knownOpcodes → s.hears = true →
    exec (.badOpcode op) s = .next (s.answered .badOpcode))

/-- The bytes of the other read replies: their number, and at each offset of section 12.6 the field it carries, with
the codes of section 12.6 written out (R21, R30, R46, R58, R78, R79, R97, R109, R132, R147, R151); the sign is driven
in METERING and SUSPENDED (R78); and the bytes on SDO: none with CS_N high, 0xFF while a frame is received, and from
the evaluation the result code, the reply bytes and 0xFF (R167, R168). That the demand of an unbound lane reads
present is the model's reading (notes/assumptions/12.md), and so is that `none` and `some 0` both read as a settle
timer at 0 (17.md). That SDO shifts out 0xFF while the part waits for CS_N to rise is the model's choice, and so is
readiness reported by the bare comparison in every ramp state: 18.md. -/
def Obligations.ReadReplyLayouts : Prop :=
  (∀ (s : State) (c : Fin 32),
    let x := s.chan c
    let field := FieldAt x.reply
    x.reply.length = 24
    ∧ field 0 1 (match x.duty with
        | .unused => 0 | .mainline _ => 1 | .entry _ => 2 | .queue _ => 3 | .demand _ => 4 | .passage _ => 5)
    ∧ field 1 1 (match x.duty with
        | .unused => 255 | .mainline r | .entry r | .queue r => r.val | .demand l | .passage l => l.val)
    ∧ field 2 1 x.settle ∧ field 3 1 x.stuckOn ∧ field 4 1 x.silent ∧ field 5 1 x.chatter
    ∧ field 6 1 (match x.state with | .unused => 0 | .active => 1 | .faulted _ => 2 | .parked => 3)
    ∧ field 7 1 (match x.state with
        | .faulted .stuckOn => 1 | .faulted .silent => 2 | .faulted .chatter => 3 | .unused | .active | .parked => 0)
    ∧ field 8 1 (x.occupied.toNat + 2 * x.acquiring.toNat + 4 * x.latchedValid.toNat)
    ∧ field 9 2 x.onTime ∧ field 11 2 x.count ∧ field 13 2 x.latchedOnTime ∧ field 15 2 x.latchedCount
    ∧ field 17 2 x.latchedOcc ∧ field 19 2 (x.continuousOn / 100) ∧ field 21 2 (x.silence / 100)
    ∧ field 23 1 x.windowCount)
  ∧ (∀ (s : State) (p : Fin 16),
    let x := (s.plan p).fields
    let field := FieldAt (s.planReply p)
    (s.planReply p).length = 28
    ∧ field 0 1 (s.plan p).defined.toNat
    ∧ field 1 1 ((List.finRange 4).countP (fun r => decide ((s.ramp r).ctl.active = some p))
        + (List.finRange 4).countP fun r => decide ((s.ramp r).ctl.pending = some p))
    ∧ (∃ active pending : Byte, (s.planReply p)[2]? = some active ∧ (s.planReply p)[3]? = some pending
        ∧ active.toNat < 16 ∧ pending.toNat < 16
        ∧ ∀ r : Fin 4, active.getLsbD r = decide ((s.ramp r).ctl.active = some p)
            ∧ pending.getLsbD r = decide ((s.ramp r).ctl.pending = some p))
    ∧ field 4 2 x.target ∧ field 6 1 x.gain ∧ field 7 2 x.rateMin ∧ field 9 2 x.rateMax ∧ field 11 2 x.rateStart
    ∧ field 13 2 x.rateFallback ∧ field 15 2 x.maxWait ∧ field 17 2 x.spillOcc ∧ field 19 2 x.spillStep
    ∧ field 21 2 x.onOcc ∧ field 23 1 x.onCount ∧ field 24 2 x.offOcc ∧ field 26 1 x.offCount ∧ field 27 1 x.offQueue)
  ∧ (∀ (s : State) (r : Fin 4),
    let x := s.ramp r
    let field := FieldAt (s.rampReply r)
    let mode := fun m : Mode => match m with | .host => 0 | .auto => 1
    (s.rampReply r).length = 62
    ∧ field 0 1 (match x.ctl.state with
        | .closed => 0 | .standby => 1 | .metering => 2 | .suspended => 3 | .stopping => 4)
    ∧ field 1 1 (mode x.ctl.mode) ∧ field 2 1 (mode (s.effectiveMode r))
    ∧ field 3 1 x.ctl.interval ∧ field 4 1 (x.ctl.elapsed / 10)
    ∧ field 5 1 (x.ctl.active.elim 255 Fin.val) ∧ field 6 1 (x.ctl.pending.elim 255 Fin.val)
    ∧ field 7 2 x.ctl.suspendHoldOff ∧ field 9 2 x.ctl.holdOff
    ∧ field 11 1 x.ctl.override.isSome.toNat ∧ field 12 2 (x.ctl.override.elim 0 Override.rate)
    ∧ field 14 1 (x.ctl.override.elim 0 Override.minutes) ∧ field 15 1 (x.ctl.suspension.elim 0 Suspension.minutes)
    ∧ field 16 1 x.ctl.onRun ∧ field 17 1 x.ctl.offRun
    ∧ field 18 1 (if x.ctl.state = .metering ∨ x.ctl.state = .suspended then 1 else 0)
    ∧ (x.ctl.state.sign = true ↔ x.ctl.state = .metering ∨ x.ctl.state = .suspended)
    ∧ field 19 1 x.station.valid.toNat ∧ field 20 2 x.station.occupancy ∧ field 22 2 x.station.flow
    ∧ field 24 1 x.station.size
    ∧ field 25 1 x.queue.capacity ∧ field 26 1 x.queue.position ∧ field 27 1 x.queue.emptyCheck
    ∧ field 28 1 x.queue.queueCheck ∧ field 29 1 x.queue.stored ∧ field 30 1 x.queue.spill.toNat
    ∧ field 31 1 x.queue.entryDegraded.toNat ∧ field 32 1 x.queue.overflow ∧ field 33 1 x.queue.slip
    ∧ field 34 1 x.queue.corrections
    ∧ field 35 2 x.rate.final ∧ field 37 2 x.rate.headway
    ∧ field 39 1 (match x.rate.decision with
        | .none => 0 | .start => 1 | .feedback => 2 | .fallback => 3 | .min => 4 | .max => 5 | .wait => 6 | .spill => 7
        | .cap => 8 | .override => 9)
    ∧ field 40 2 (BitVec.ofInt 16 x.rate.e).toNat ∧ field 42 4 (BitVec.ofInt 32 x.rate.r1).toNat
    ∧ field 46 2 x.rate.r2 ∧ field 48 2 x.rate.rWait ∧ field 50 2 x.rate.rSpill ∧ field 52 2 x.rate.ceiling
    ∧ field 54 1 x.sched.waiting.length
    ∧ (∀ i, i < 4 → field (55 + i) 1 (x.sched.waiting[i]?.elim 255 Fin.val))
    ∧ field 59 2 x.sched.sinceGrant ∧ field 61 1 (if x.rate.headway ≤ x.sched.sinceGrant then 1 else 0))
  ∧ (∀ (s : State) (l : Fin 8),
    let x := s.lane l
    let field := FieldAt (s.laneReply l)
    (s.laneReply l).length = 19
    ∧ field 0 1 (x.ramp.elim 255 Fin.val)
    ∧ (∃ b : Byte, (s.laneReply l)[1]? = some b ∧ b.getLsbD 0 = x.inService ∧ b.getLsbD 1 = x.leaving
        ∧ (b.getLsbD 2 = true ↔
            x.ramp ≠ none ∧ x.inService = true ∧ x.leaving = false ∧ ∀ cause, x.state ≠ .faultLocked cause)
        ∧ b.getLsbD 3 = x.redSuspect ∧ b.getLsbD 4 = s.demand l
        ∧ (b.getLsbD 5 = true ↔ ∃ r, x.ramp = some r ∧ l ∈ (s.ramp r).sched.waiting)
        ∧ b.getLsbD 6 = s.exitPassage l
        ∧ (b.getLsbD 7 = true ↔ x.ramp = none ∨ x.settle = none ∨ x.settle = some 0))
    ∧ field 2 1 (match x.state with
        | .dark => 0 | .proving => 1 | .starting => 2 | .redMin => 3 | .redReady => 4 | .green => 5 | .amber => 6
        | .resting => 7 | .flush => 8 | .supplyOut => 9 | .faultLocked _ => 10)
    ∧ field 3 2 x.timer
    ∧ field 5 1 (match x.aspect with | .none => 0 | .red => 1 | .amber => 2 | .green => 3)
    ∧ field 6 1 x.greenTime ∧ field 7 1 x.amberTime ∧ field 8 2 x.minRed ∧ field 10 1 x.startAmber ∧ field 11 2 x.flushGreen
    ∧ field 13 1 (match x.state with
        | .faultLocked .conflict => 1 | .faultLocked .redLamp => 2 | .faultLocked .outputStuck => 3
        | .dark | .proving | .starting | .redMin | .redReady | .green | .amber | .resting | .flush | .supplyOut => 0)
    ∧ field 14 1 x.rechecks ∧ field 15 1 x.transients ∧ field 16 2 x.releases
    ∧ ∃ b : Byte, (s.laneReply l)[18]? = some b ∧ b.getLsbD 0 = x.sense.red ∧ b.getLsbD 1 = x.sense.amber
        ∧ b.getLsbD 2 = x.sense.green ∧ (b.getLsbD 3 = true ↔ x.InConflict) ∧ b.toNat < 16)
  ∧ (∀ f : FaultRegister,
    let field := FieldAt f.reply
    f.reply.length = 25
    ∧ field 0 2 f.flags.toNat
    ∧ field 2 1 (f.countOf .detStuckOn) ∧ field 3 1 (f.countOf .detSilent) ∧ field 4 1 (f.countOf .detChatter)
    ∧ field 5 1 (f.countOf .mainlineLost) ∧ field 6 1 (f.countOf .queueSpill) ∧ field 7 1 (f.countOf .conflict)
    ∧ field 8 1 (f.countOf .redLampOut) ∧ field 9 1 (f.countOf .outputStuck) ∧ field 10 1 (f.countOf .auxLampOut)
    ∧ field 11 1 (f.countOf .lampTransient) ∧ field 12 1 (f.countOf .supplyLoss) ∧ field 13 1 (f.countOf .hostLost)
    ∧ field 14 1 (f.countOf .autoChange)
    ∧ (f.first = none → ∀ i, 15 ≤ i → i ≤ 23 → field i 1 0)
    ∧ (∀ x, f.first = some x →
        field 15 1 1
        ∧ field 16 1 (match x.kind with
            | .detStuckOn => 1 | .detSilent => 2 | .detChatter => 3 | .mainlineLost => 4 | .queueSpill => 5
            | .conflict => 6 | .redLampOut => 7 | .outputStuck => 8 | .auxLampOut => 9 | .lampTransient => 10
            | .supplyLoss => 11 | .hostLost => 12 | .autoChange => 13)
        ∧ field 17 1 (match x.object with | .detector => 1 | .lane => 2 | .ramp => 3 | .part => 4)
        ∧ field 18 1 x.index ∧ field 19 1 x.detail ∧ field 20 4 x.uptime)
    ∧ field 24 1 f.further.toNat)
  ∧ ∀ (x : Link) (k : Nat),
    (x.phase = .idle → x.shiftedOut k = none)
    ∧ (x.phase = .receiving ∨ x.phase = .waitRise → x.shiftedOut k = some 0xFF)
    ∧ ∀ result, x.phase = .reply → x.result = some result →
      (k = 0 → x.shiftedOut k = some (match result with
        | .ok => 0x00 | .clamped => 0x01 | .badOpcode => 0x02 | .badId => 0x03 | .badValue => 0x04 | .undefined => 0x05
        | .inUse => 0x06 | .wrongState => 0x07 | .locked => 0x08 | .tooSoon => 0x09 | .faultPending => 0x0A
        | .notArmed => 0x0B | .rampsActive => 0x0C | .sequence => 0x0D | .parked => 0x0E | .lockedOut => 0x0F
        | .supervision => 0x10))
      ∧ (1 ≤ k → k ≤ x.reply.length → x.shiftedOut k = x.reply[k - 1]?)
      ∧ (x.reply.length < k → x.shiftedOut k = some 0xFF)

/-- DETECTOR READ, PLAN READ, RAMP READ, LANE READ and FAULT READ are taken in every state, change nothing and return OK
with the record's reply bytes; a number that names no record is refused with BAD_ID and no reply bytes (R21, R58, R79,
R132, R151, R168). -/
def Obligations.ReadRequestsChangeNothing : Prop :=
  ∀ s : State, s.hears = true →
    (∀ c : Fin 32, exec (.detectorRead (byteOf c)) s = .next (s.answered .ok (s.chan c).reply))
    ∧ (∀ p : Fin 16, exec (.planRead (byteOf p)) s = .next (s.answered .ok (s.planReply p)))
    ∧ (∀ r : Fin 4, exec (.rampRead (byteOf r)) s = .next (s.answered .ok (s.rampReply r)))
    ∧ (∀ l : Fin 8, exec (.laneRead (byteOf l)) s = .next (s.answered .ok (s.laneReply l)))
    ∧ exec .faultRead s = .next (s.answered .ok s.faults.reply)
    ∧ (∀ b : Byte, 32 ≤ b.toNat → exec (.detectorRead b) s = .next (s.answered .badId))
    ∧ (∀ b : Byte, 16 ≤ b.toNat → exec (.planRead b) s = .next (s.answered .badId))
    ∧ (∀ b : Byte, 4 ≤ b.toNat → exec (.rampRead b) s = .next (s.answered .badId))
    ∧ (∀ b : Byte, 8 ≤ b.toNat → exec (.laneRead b) s = .next (s.answered .badId))

/-! ## Supervision and locks -/

/-- KEEPALIVE, row by row of its table: off, taken and answered; with the first mark set or the next token, accepted;
with any other token, refused with SEQUENCE (R159, R161). That an acceptance is marked for this moment is the model's
choice: notes/assumptions/4.md. -/
def Obligations.KeepaliveByToken : Prop :=
  ∀ (s : State) (token : Byte), s.hears = true →
    (s.sup.enable = false →
      exec (.keepalive token) s = .next (s.answered .ok [byteOf s.sup.stage.code, s.sup.lastToken]))
    ∧ (s.sup.enable = true → s.sup.firstMark = true ∨ token = s.sup.lastToken + 1 →
      ∃ t : State, exec (.keepalive token) s = .next (t.answered .ok [0, token])
        ∧ t = { s with
            sup := { s.sup with lastToken := token, firstMark := false, timer := 0, stage := .present, keptAlive := true }
            ramps := t.ramps }
        ∧ ∀ r, t.ramp r = runsAfterReturn s (s.ramp r))
    ∧ (s.sup.enable = true → s.sup.firstMark = false → token ≠ s.sup.lastToken + 1 →
      exec (.keepalive token) s = .next (s.answered .sequence [byteOf s.sup.stage.code, s.sup.lastToken]))

/-- SUPERVISION SET: LOCKED under the lock, BAD_VALUE for an enable code above 1, else the settings are written
clamped, the timer restarts, the stage returns to 0 and the first mark is set when supervision is turned on (R158,
R161). The mark of a keepalive accepted at this moment, the model's own, stays: notes/assumptions/4.md. -/
def Obligations.SupervisionSetWrites : Prop :=
  ∀ (s : State) (enable t1 : Byte) (t2 : Half), s.hears = true →
    (s.locks.supervision = true → exec (.supervisionSet enable t1 t2) s = .next (s.answered .locked))
    ∧ (s.locks.supervision = false → 1 < enable.toNat →
      exec (.supervisionSet enable t1 t2) s = .next (s.answered .badValue))
    ∧ (s.locks.supervision = false → enable.toNat ≤ 1 →
      ∃ t : State,
        exec (.supervisionSet enable t1 t2) s =
          .next (t.answered
            (takenIf ((10 ≤ t1.toNat ∧ t1.toNat ≤ 250) ∧ 60 ≤ t2.toNat ∧ t2.toNat ≤ 3600)))
        ∧ t = { s with
            sup :=
              { enable := enable.toNat = 1
                t1 := max 10 (min t1.toNat 250), t2 := max 60 (min t2.toNat 3600)
                stage := .present, timer := 0, lastToken := s.sup.lastToken
                firstMark := s.sup.firstMark || (decide (enable.toNat = 1) && !s.sup.enable)
                keptAlive := s.sup.keptAlive }
            ramps := t.ramps }
        ∧ ∀ r, t.ramp r = runsAfterReturn s (s.ramp r))

/-- SET LOCK: kind 1 sets the SUPERVISION lock with supervision on and is refused with WRONG_STATE with it off, kind 2
always sets the TIMING lock, a lock already set stays set with OK, any other code is BAD_VALUE; a lock once set is cleared by
no command but a power-up, pin or clock-loss reset and its end (R162). -/
def Obligations.SetOnceLocks : Prop :=
  (∀ (s : State) (kind : Byte), s.hears = true →
    (kind = 1 → s.locks.supervision = true ∨ s.sup.enable = true →
      exec (.setLock kind) s = .next (({ s with locks := { s.locks with supervision := true } } : State).answered .ok))
    ∧ (kind = 1 → s.locks.supervision = false → s.sup.enable = false →
      exec (.setLock kind) s = .next (s.answered .wrongState))
    ∧ (kind = 2 →
      exec (.setLock kind) s = .next (({ s with locks := { s.locks with timing := true } } : State).answered .ok))
    ∧ (kind ≠ 1 → kind ≠ 2 → exec (.setLock kind) s = .next (s.answered .badValue)))
  ∧ ∀ (c : Instr) (s t : State), exec c s = .next t →
    c ≠ .powerUpReset → c ≠ .pinReset → c ≠ .clockLossReset → c ≠ .resetEnd →
    (s.locks.supervision = true → t.locks.supervision = true)
    ∧ (s.locks.timing = true → t.locks.timing = true)

/-- The onset of stage 1: stage, HOST_LOST with detail 1, every override absent, and the run counters of the ramps in mode
HOST at 0 (R160, R69). With a keepalive accepted first at the same moment the expiry does not happen (R159; what that moment
is, and that the timer's count need not stand at T1 when the command is given, are the model's choice:
notes/assumptions/3.md and 4.md). With supervision off, at another stage and in a reset the command changes nothing (R160,
R163). -/
def Obligations.StageOneOnset : Prop :=
  (∀ s : State, s.resetting = false → s.sup.enable = true → s.sup.stage = .present →
      (s.sup.keptAlive = true → exec .stage1Onset s = .next s)
      ∧ (s.sup.keptAlive = false →
        ∃ t, exec .stage1Onset s = .next t
          ∧ t = { s with
              sup := { s.sup with stage := .one, timer := s.sup.t1 * 10 }
              faults := s.faults.onset
                { kind := .hostLost, object := .part, index := 255, detail := 1, uptime := s.unit.uptime }
              ramps := t.ramps }
          ∧ ∀ r, t.ramp r = { s.ramp r with ctl := { (s.ramp r).ctl with
              override := none
              onRun := if (s.ramp r).ctl.mode = .host then 0 else (s.ramp r).ctl.onRun
              offRun := if (s.ramp r).ctl.mode = .host then 0 else (s.ramp r).ctl.offRun } }))
  ∧ ∀ s : State, s.resetting = true ∨ s.sup.enable = false ∨ s.sup.stage ≠ .present → exec .stage1Onset s = .next s

/-- The onset of stage 2: stage, HOST_LOST with detail 2, and every METERING or SUSPENDED ramp is sent to STOPPING, its
lanes on their stop paths, and on to STANDBY if none is left on the display, with its count, timers and marks cleared; the
other ramps, lanes and channels stay (R160, R32, R40, R54, R66, R67, R123). The model's choices: the onset is taken at any
count of the supervision timer, which it sets to its limit (notes/assumptions/4.md), and it ends the moment of an entry to
METERING (22.md). With supervision off, at another stage and in a reset the command changes nothing (R160, R163). -/
def Obligations.StageTwoOnset : Prop :=
  (∀ s : State, s.resetting = false → s.sup.enable = true → s.sup.stage = .one →
      ∃ t, exec .stage2Onset s = .next t
        ∧ t = { s with
            sup := { s.sup with stage := .two, timer := (s.sup.t1 + s.sup.t2) * 10 }
            faults := s.faults.onset
              { kind := .hostLost, object := .part, index := 255, detail := 2, uptime := s.unit.uptime }
            ramps := t.ramps, lanes := t.lanes, channels := t.channels }
        ∧ (∀ r, s.rampRuns r = false → t.ramp r = s.ramp r)
        ∧ (∀ r, s.rampRuns r = true →
            (EveryLaneOut t r → t.ramp r =
              { s.ramp r with
                ctl := (s.ramp r).ctl.stopping.standing
                queue := { (s.ramp r).queue with stored := 0, spill := false, emptyTimer := 0, armed := false }
                sched := { (s.ramp r).sched with waiting := [], fresh := false } })
            ∧ (¬ EveryLaneOut t r → t.ramp r =
              { s.ramp r with
                ctl := (s.ramp r).ctl.stopping
                queue := { (s.ramp r).queue with spill := false, emptyTimer := 0 }
                sched := { (s.ramp r).sched with waiting := [], fresh := false } }))
        ∧ (∀ l, t.lane l =
            if (s.lane l).ramp.any s.rampRuns then (s.lane l).stopPath else s.lane l)
        ∧ (∀ c r, (s.chan c).duty = .queue r → s.rampRuns r = true → EveryLaneOut t r →
            t.chan c = { s.chan c with queueTimer := 0, served := false })
        ∧ ∀ c, (∀ r, (s.chan c).duty = .queue r → s.rampRuns r = false ∨ ¬ EveryLaneOut t r) → t.chan c = s.chan c)
  ∧ ∀ s : State, s.resetting = true ∨ s.sup.enable = false ∨ s.sup.stage ≠ .one → exec .stage2Onset s = .next s

/-! ## Resets -/

/-- Every item of every record at its full-reset value: State.reset holds it (R1, R22, R31, R47, R59, R80, R98, R110,
R133, R148, R157, R162 to R165, R169). The model's choices: the levels of the pins and of CS_N
(notes/assumptions/1.md), the reset taken to be a power-up (9.md), the phases and runs of larger units at 0 (14.md), a
settle timer at 0 as `none` (17.md), and the items that belong to one sample or moment (4.md, 5.md, 22.md). -/
def Obligations.ResetValues : Prop :=
  (∀ c, State.reset.chan c =
    { duty := .unused, settle := 2, stuckOn := 5, silent := 0, chatter := 8, state := .unused
      occupied := false, onTime := 0, count := 0
      latchedOnTime := 0, latchedCount := 0, latchedOcc := 0, latchedValid := false
      continuousOn := 0, silence := 0, windowCount := 0
      qualification := 0, acquiring := false, periodMark := false, windowPhase := 0
      queueTimer := 0, served := false, input := false })
  ∧ (∀ p, State.reset.plan p =
    { defined := false
      fields :=
        { target := 280, gain := 7, rateMin := 240, rateMax := 1800, rateStart := 900, rateFallback := 900
          maxWait := 240, spillOcc := 500, spillStep := 120, onOcc := 250, onCount := 3, offOcc := 180
          offCount := 5, offQueue := 5 } })
  ∧ (∀ r, State.reset.ramp r =
    { ctl :=
        { state := .closed, mode := .host, interval := 30, elapsed := 0, active := none, pending := none
          suspendHoldOff := 120, holdOff := 0, holdOffRun := 0, override := none, suspension := none
          onRun := 0, offRun := 0 }
      station := { valid := true, occupancy := 0, flow := 0, size := 0 }
      queue :=
        { capacity := 60, position := 30, emptyCheck := 20, queueCheck := 10, stored := 0, spill := false
          entryDegraded := false, overflow := 0, slip := 0, corrections := 0, emptyTimer := 0, armed := false }
      rate :=
        { final := 0, headway := 0, decision := .none, e := 0, r1 := 0, r2 := 0, rWait := 0, rSpill := 0
          ceiling := 0 }
      sched := { waiting := [], sinceGrant := 0, fresh := false } })
  ∧ (∀ l, State.reset.lane l =
    { ramp := none, inService := false, leaving := false, state := .dark, timer := 0
      greenTime := 15, amberTime := 20, minRed := 20, startAmber := 50, flushGreen := 150
      redSuspect := false, rechecks := 0, transients := 0, releases := 0
      settle := none, conflict := 0, conflictMark := .counting, conflictBefore := 0, markBefore := .counting
      recheck := 0, clearRun := 0, seen := { red := false, amber := false, green := false }, auxMark := false
      provingLeft := 0, sense := { red := false, amber := false, green := false } })
  ∧ State.reset.lamp = { qualify := 20, recheckN := 3, present := false, supplyTimer := 0, lsup := false }
  ∧ State.reset.faults.flags = 0 ∧ (∀ k, State.reset.faults.countOf k = 0) ∧ State.reset.faults.first = none
  ∧ State.reset.faults.further = false ∧ State.reset.faults.mask = 0x3BFE
  ∧ State.reset.sup =
      { enable := false, t1 := 60, t2 := 600, stage := .present, timer := 0, lastToken := 0, firstMark := true
        keptAlive := false }
  ∧ State.reset.locks = { supervision := false, timing := false }
  ∧ State.reset.unit =
      { armed := false, restartPending := false, inReset := { power := false, pin := false, clock := false }
        causes := { power := true, pin := false, clock := false, command := false }, uptime := 0, uptimeRun := 0 }
  ∧ State.reset.link = { phase := .idle, shortFrames := 0, result := none, reply := [] }
  ∧ State.reset.tickPhase = 0 ∧ State.reset.pending = []

/-- A power-up, pin or clock-loss reset gives every record its full-reset value, whatever the state: the same record that
State.reset holds, but for the levels on the pins, the reset in progress, the cause flags of R164 and the reception state
(section 11.5); the end of the reset leaves those values with no reset in progress, uptime 0 and the cause flags of the
kinds that made it up (R163, R164). No frame is in progress after either, and with CS_N low at the end the part waits for it
to rise (R167, R169). In between no event of the road, the lamps or the timers changes anything (R163), and RESET_END with
no reset in progress changes nothing. That the values stand from the beginning is the model's choice:
notes/assumptions/8.md; that CS_N is low where a frame was open at the beginning or began to fall in the reset is its
reading: 18.md. -/
def Obligations.FullResetBeginsAndEnds : Prop :=
  (∀ (s : State) (c : Instr) (kinds : ResetKinds),
    (c = .powerUpReset ∧ kinds = { s.unit.inReset with power := true })
      ∨ (c = .pinReset ∧ kinds = { s.unit.inReset with pin := true })
      ∨ (c = .clockLossReset ∧ kinds = { s.unit.inReset with clock := true }) →
    ∃ t, exec c s = .next t
      ∧ (∀ i, t.chan i = { State.reset.chan i with input := (s.chan i).input })
      ∧ t.plans = State.reset.plans ∧ t.ramps = State.reset.ramps
      ∧ (∀ l, t.lane l = { State.reset.lane l with sense := (s.lane l).sense })
      ∧ t.lamp = { State.reset.lamp with lsup := s.lamp.lsup }
      ∧ t.faults = State.reset.faults ∧ t.sup = State.reset.sup ∧ t.locks = State.reset.locks
      ∧ t.unit =
          { armed := false, restartPending := false, inReset := kinds, uptime := 0, uptimeRun := 0
            causes :=
              if kinds.power then { power := true, pin := false, clock := false, command := false }
              else { s.unit.causes with
                pin := s.unit.causes.pin || kinds.pin, clock := s.unit.causes.clock || kinds.clock } }
      ∧ t.link =
          { phase := if s.link.phase = .idle then .idle else .waitRise, shortFrames := 0, result := none
            reply := [] }
      ∧ t.tickPhase = 0 ∧ t.choices = s.choices ∧ t.pending = s.pending)
  ∧ (∀ (s : State) (e : Instr), s.resetting = true → isRequest e = false →
    e ∉ [.powerUpReset, .pinReset, .clockLossReset, .resetEnd, .frameBegin, .shortFrame] →
    (∀ op, e ≠ .badOpcode op) → (∀ c high, e ≠ .detectorInputChange c high) →
    (∀ l red amber green, e ≠ .lampSenseChange l red amber green) → (∀ high, e ≠ .lampSupplyInputChange high) →
    exec e s = .next s)
  ∧ (∀ s : State, s.resetting = false → exec .resetEnd s = .next s)
  ∧ (∀ s : State, s.resetting = true ↔
    s.unit.inReset.power = true ∨ s.unit.inReset.pin = true ∨ s.unit.inReset.clock = true)
  ∧ ∀ s : State, s.resetting = true →
    ∃ t, exec .resetEnd s = .next t
      ∧ (∀ i, t.chan i = { State.reset.chan i with input := (s.chan i).input })
      ∧ t.plans = State.reset.plans ∧ t.ramps = State.reset.ramps
      ∧ (∀ l, t.lane l = { State.reset.lane l with sense := (s.lane l).sense })
      ∧ t.lamp = { State.reset.lamp with lsup := s.lamp.lsup }
      ∧ t.faults = State.reset.faults ∧ t.sup = State.reset.sup ∧ t.locks = State.reset.locks
      ∧ t.resetting = false
      ∧ t.unit =
          { armed := false, restartPending := false, inReset := { power := false, pin := false, clock := false }
            uptime := 0, uptimeRun := 0
            causes :=
              if s.unit.inReset.power then { power := true, pin := false, clock := false, command := false }
              else { s.unit.causes with
                pin := s.unit.causes.pin || s.unit.inReset.pin
                clock := s.unit.causes.clock || s.unit.inReset.clock } }
      ∧ t.link =
          { phase := if s.link.phase = .idle then .idle else .waitRise, shortFrames := 0, result := none
            reply := [] }
      ∧ t.tickPhase = 0 ∧ t.choices = s.choices ∧ t.pending = s.pending

/-- The command restart keeps what the host has configured and gives the rest its starting value, record by record of the
table of section 11.5 (R2, R22, R31, R47, R60, R81, R98, R111, R133, R148, R157, R162 to R166). The mark of a keepalive
accepted at this moment is the model's own: notes/assumptions/4.md. With no RESTART pending, and in a full reset, the
command changes nothing: 7.md. -/
def Obligations.CommandRestartKeepsConfiguration : Prop :=
  (∀ s : State, s.unit.restartPending = true → s.resetting = false →
      ∃ t, exec .commandRestart s = .next t
        ∧ (∀ c, t.chan c =
            match (s.chan c).state with
            | .unused => (s.chan c).cleared
            | .parked => { (s.chan c).cleared with state := .parked }
            | .active | .faulted _ => { (s.chan c).cleared with state := .active, acquiring := true, periodMark := true })
        ∧ t.plans = s.plans
        ∧ (∀ r, s.rampState r = .closed → t.ramp r = State.reset.ramp r)
        ∧ (∀ r, s.rampState r ≠ .closed → t.ramp r =
            { ctl := { (State.reset.ramp r).ctl with
                state := .standby, mode := (s.ramp r).ctl.mode, interval := (s.ramp r).ctl.interval
                suspendHoldOff := (s.ramp r).ctl.suspendHoldOff, active := (s.ramp r).ctl.active }
              station := (State.reset.ramp r).station
              queue := { (State.reset.ramp r).queue with
                capacity := (s.ramp r).queue.capacity, position := (s.ramp r).queue.position
                emptyCheck := (s.ramp r).queue.emptyCheck, queueCheck := (s.ramp r).queue.queueCheck
                entryDegraded := !t.someActive (.entry r) }
              rate := { (State.reset.ramp r).rate with ceiling := t.ceilingOf r }
              sched := (State.reset.ramp r).sched })
        ∧ (∀ l, t.lane l =
            { State.reset.lane l with
              ramp := (s.lane l).ramp, inService := (s.lane l).inService
              state := if (s.lane l).isLocked then (s.lane l).state else .dark
              greenTime := (s.lane l).greenTime, amberTime := (s.lane l).amberTime, minRed := (s.lane l).minRed
              startAmber := (s.lane l).startAmber, flushGreen := (s.lane l).flushGreen, sense := (s.lane l).sense })
        ∧ t.lamp = { s.lamp with present := false, supplyTimer := 0 }
        ∧ t.faults = State.reset.faults
        ∧ t.sup = { s.sup with stage := .present, timer := 0, lastToken := 0, firstMark := true, keptAlive := false }
        ∧ t.locks = s.locks
        ∧ t.unit =
            { armed := false, restartPending := false, inReset := ResetKinds.none, uptime := 0, uptimeRun := 0
              causes := { s.unit.causes with command := true } }
        ∧ t.link = { phase := .idle, shortFrames := 0, result := none, reply := [] })
  ∧ ∀ s : State, s.unit.restartPending = false ∨ s.resetting = true → exec .commandRestart s = .next s

/-- RESTART ARM sets the arming mark; RESTART without it is NOT_ARMED, with a ramp METERING, SUSPENDED or STOPPING it is
RAMPS_ACTIVE, else the restart is pending; CLEAR CAUSES clears the four cause flags; each leaves the mark as R165 and R166
say, and nothing else changes (R164 to R166). -/
def Obligations.RestartAndCauseRequests : Prop :=
  ∀ s : State, s.hears = true →
    exec .restartArm s =
      .next { s.answered .ok with unit := { s.unit with armed := true } }
    ∧ (s.unit.armed = false → exec .restart s = .next (s.answered .notArmed))
    ∧ (s.unit.armed = true → (∃ r, (s.rampState r).isUp = true) →
      exec .restart s = .next (s.answered .rampsActive))
    ∧ (s.unit.armed = true → (∀ r, (s.rampState r).isUp = false) →
      exec .restart s =
        .next (({ s with unit := { s.unit with restartPending := true } } : State).answered .ok))
    ∧ exec .clearCauses s =
      .next (({ s with unit := { s.unit with
        causes := { power := false, pin := false, clock := false, command := false } } } : State).answered .ok)

/-! ## The Fault Register -/

/-- An onset sets its flag, raises its count up to 255 and, for a capturing kind, fills the empty record with the uptime or
sets further-faults; an informational kind, which is QUEUE_SPILL, LAMP_TRANSIENT or AUTO_CHANGE and no other, does neither;
nothing else in the register moves (R149, R150). The flag of the kind with number n is bit n of the flags word (section
10.1). -/
def Obligations.OnsetIsRegistered : Prop :=
  ∀ (f : FaultRegister) (x : FaultRecord),
    (∀ k, (f.onset x).flag k = (f.flag k || decide (k = x.kind)))
    ∧ (∀ k, (f.onset x).countOf k = if k = x.kind then min (f.countOf k + 1) 255 else f.countOf k)
    ∧ (f.onset x).mask = f.mask
    ∧ (x.kind.capturing = true → f.first = none → (f.onset x).first = some x ∧ (f.onset x).further = f.further)
    ∧ (x.kind.capturing = true → f.first.isSome = true →
        (f.onset x).first = f.first ∧ (f.onset x).further = true)
    ∧ (x.kind.capturing = false → (f.onset x).first = f.first ∧ (f.onset x).further = f.further)
    ∧ (∀ k : FaultKind, k.capturing = false ↔ k = .queueSpill ∨ k = .lampTransient ∨ k = .autoChange)
    ∧ (∀ k : FaultKind, k.number = match k with
        | .detStuckOn => 1 | .detSilent => 2 | .detChatter => 3 | .mainlineLost => 4 | .queueSpill => 5
        | .conflict => 6 | .redLampOut => 7 | .outputStuck => 8 | .auxLampOut => 9 | .lampTransient => 10
        | .supplyLoss => 11 | .hostLost => 12 | .autoChange => 13)
    ∧ ∀ k : FaultKind, f.flag k = f.flags.getLsbD k.number

/-- FAULT CLEAR clears the flag and the count of each kind in its mask and no other, empties the record with further-faults
when the record's kind is in the mask, and replies with the flags word after; ALERT_N is low exactly while a flag left set is
in the alert mask (R152). -/
def Obligations.FaultClearByMask : Prop :=
  ∀ (s : State) (mask : Half), s.hears = true →
    ∃ t : State,
      exec (.faultClear mask) s =
        .next (t.answered .ok [t.faults.flags.extractLsb' 8 8, t.faults.flags.extractLsb' 0 8])
      ∧ t = { s with faults := t.faults }
      ∧ (∀ k : FaultKind, t.faults.flag k = (s.faults.flag k && !mask.getLsbD k.number))
      ∧ (∀ k : FaultKind, t.faults.countOf k = if mask.getLsbD k.number then 0 else s.faults.countOf k)
      ∧ t.faults.mask = s.faults.mask
      ∧ (∀ x, s.faults.first = some x → mask.getLsbD x.kind.number = true →
          t.faults.first = none ∧ t.faults.further = false)
      ∧ (s.faults.first = none ∨ (∃ x, s.faults.first = some x ∧ mask.getLsbD x.kind.number = false) →
          t.faults.first = s.faults.first ∧ t.faults.further = s.faults.further)
      ∧ (t.alertLow = true ↔ t.faults.flags &&& t.faults.mask ≠ 0)

/-- ALERT MASK makes the alert mask the kinds named in its operand, with bits 0, 14 and 15 held at zero, and replies with
it; no flag, count or record changes; ALERT_N follows the new mask at once (R154, R155). -/
def Obligations.AlertMaskWrites : Prop :=
  ∀ (s : State) (mask : Half), s.hears = true →
    ∃ t : State,
      exec (.alertMask mask) s =
        .next (t.answered .ok [t.faults.mask.extractLsb' 8 8, t.faults.mask.extractLsb' 0 8])
      ∧ t = { s with faults := { s.faults with mask := t.faults.mask } }
      ∧ (∀ i, t.faults.mask.getLsbD i = (mask.getLsbD i && decide (1 ≤ i ∧ i ≤ 13)))
      ∧ (t.alertLow = true ↔ ∃ i, 1 ≤ i ∧ i ≤ 13 ∧ mask.getLsbD i = true ∧ s.faults.flags.getLsbD i = true)

/-! ## Detector channels -/

/-- DETECTOR CONFIGURE refuses, in this order, a channel above 31, a PARKED channel, an undefined role, a binding out of
range, no binding for a role that needs one, and a CLOSED ramp or an unbound lane; one that passes writes the role, the
binding and the clamped timings, zeroes every dynamic field, and leaves the channel UNUSED for role UNUSED and otherwise
ACTIVE and acquiring; the ramps it served and serves see the change (R19, R20, R35). The model's choices: two lanes that one
command calls join the list in the order of their numbers (notes/assumptions/15.md), and a presence watched outside METERING
does not set the armed mark (21.md). -/
def Obligations.DetectorConfigure : Prop :=
  (∀ (s : State) (b role binding settle stuckOn silent chatter : Byte), s.hears = true →
    (32 ≤ b.toNat →
      exec (.detectorConfigure b role binding settle stuckOn silent chatter) s = .next (s.answered .badId))
    ∧ ∀ c : Fin 32, b = byteOf c →
      let run := exec (.detectorConfigure b role binding settle stuckOn silent chatter) s
      ((s.chan c).state = .parked → run = .next (s.answered .parked))
      ∧ ((s.chan c).state ≠ .parked →
          (5 < role.toNat → run = .next (s.answered .badValue))
          ∧ ((1 ≤ role.toNat ∧ role.toNat ≤ 3 ∧ 4 ≤ binding.toNat ∨ 4 ≤ role.toNat ∧ role.toNat ≤ 5 ∧ 8 ≤ binding.toNat)
              → binding ≠ 0xFF → run = .next (s.answered .badId))
          ∧ (1 ≤ role.toNat → role.toNat ≤ 5 → binding = 0xFF → run = .next (s.answered .badValue))
          ∧ (∀ r : Fin 4, 1 ≤ role.toNat → role.toNat ≤ 3 → binding = byteOf r → s.rampState r = .closed →
              run = .next (s.answered .undefined))
          ∧ ∀ l : Fin 8, 4 ≤ role.toNat → role.toNat ≤ 5 → binding = byteOf l → (s.lane l).ramp = none →
              run = .next (s.answered .undefined)))
  ∧ ∀ (s : State) (c : Fin 32) (d : Duty) (binding settle stuckOn silent chatter : Byte), s.hears = true →
    (s.chan c).state ≠ .parked →
    (d ≠ .unused → binding = d.bindingByte) →
    (match d with
      | .unused => True
      | .mainline r | .entry r | .queue r => s.rampState r ≠ .closed
      | .demand l | .passage l => (s.lane l).ramp ≠ none) →
    ∃ t : State,
      exec (.detectorConfigure (byteOf c) (byteOf d.role.code) binding settle stuckOn silent chatter) s =
        .next (t.answered (takenIf
          (settle.toNat ≤ 10 ∧ (1 ≤ stuckOn.toNat ∧ stuckOn.toNat ≤ 30) ∧ silent.toNat ≤ 120
            ∧ 3 ≤ chatter.toNat ∧ chatter.toNat ≤ 20)))
      ∧ ChannelChanged c s t ∧ t.faults = s.faults
      ∧ t.chan c =
          { Channel.fullReset (s.chan c).input with
            duty := d
            settle := min settle.toNat 10
            stuckOn := max 1 (min stuckOn.toNat 30)
            silent := min silent.toNat 120
            chatter := max 3 (min chatter.toNat 20)
            state := if d = .unused then .unused else .active
            acquiring := decide (d ≠ .unused) }

/-- DETECTOR PARK takes an ACTIVE or FAULTED channel to PARKED, DETECTOR UNPARK a PARKED one to ACTIVE, DETECTOR RESTORE a
FAULTED one to ACTIVE, each with its configuration kept, its dynamic fields zeroed and, in ACTIVE, acquiring; parking a
PARKED channel changes nothing; the other states are refused as R15 to R17 say. The model's choices: two lanes that one
command calls join the list in the order of their numbers (notes/assumptions/15.md), and a presence watched outside METERING
does not set the armed mark (21.md). -/
def Obligations.DetectorParkUnparkRestore : Prop :=
  ∀ (s : State) (c : Fin 32), s.hears = true →
    ((s.chan c).state = .active ∨ (∃ k, (s.chan c).state = .faulted k) →
      ∃ t : State, exec (.detectorPark (byteOf c)) s = .next (t.answered .ok)
        ∧ ChannelChanged c s t ∧ t.faults = s.faults
        ∧ t.chan c = { (s.chan c).cleared with state := .parked })
    ∧ ((s.chan c).state = .parked →
      exec (.detectorPark (byteOf c)) s = .next (s.answered .ok)
      ∧ exec (.detectorRestore (byteOf c)) s = .next (s.answered .wrongState)
      ∧ ∃ t : State, exec (.detectorUnpark (byteOf c)) s = .next (t.answered .ok)
        ∧ ChannelChanged c s t ∧ t.faults = s.faults
        ∧ t.chan c = { (s.chan c).cleared with state := .active, acquiring := true })
    ∧ ((∃ k, (s.chan c).state = .faulted k) →
      ∃ t : State, exec (.detectorRestore (byteOf c)) s = .next (t.answered .ok)
        ∧ ChannelChanged c s t ∧ t.faults = s.faults
        ∧ t.chan c = { (s.chan c).cleared with state := .active, acquiring := true })
    ∧ ((s.chan c).state = .unused →
      exec (.detectorPark (byteOf c)) s = .next (s.answered .undefined)
      ∧ exec (.detectorUnpark (byteOf c)) s = .next (s.answered .undefined)
      ∧ exec (.detectorRestore (byteOf c)) s = .next (s.answered .wrongState))
    ∧ ((s.chan c).state = .active →
      exec (.detectorUnpark (byteOf c)) s = .next (s.answered .wrongState)
      ∧ exec (.detectorRestore (byteOf c)) s = .next (s.answered .wrongState))
    ∧ ((∃ k, (s.chan c).state = .faulted k) →
      exec (.detectorUnpark (byteOf c)) s = .next (s.answered .wrongState))
    ∧ ∀ b : Byte, 32 ≤ b.toNat →
      exec (.detectorPark b) s = .next (s.answered .badId)
      ∧ exec (.detectorUnpark b) s = .next (s.answered .badId)
      ∧ exec (.detectorRestore b) s = .next (s.answered .badId)

/-- An actuation makes presence occupied, counts the vehicle, restarts the timers and raises the window count, hands an
ENTRY or a PASSAGE vehicle to Queue Accounting and the presence to the bound ramp; above the chatter limit the channel is
then FAULTED with CHATTER and DET_CHATTER is raised (R6, R13, R14, R34, R37, R40). That the command is taken at any count of
the qualification timer and records the input as high is the model's choice (notes/assumptions/4.md), and so is the 0 at
which that timer stands once it has stopped (13.md). The model's choice too: a watched presence that becomes occupied
outside METERING does not set the armed mark, where R43 names no ramp state (21.md), and lanes called together join the list
in the order of their numbers (15.md). On a channel that is not ACTIVE, acquiring or occupied already, and in a reset, the
command changes nothing (R1, R4, R5, R14, R16, R163). -/
def Obligations.ActuationCounts : Prop :=
  (∀ (s : State) (c : Fin 32), s.resetting = false →
      (s.chan c).state = .active → (s.chan c).acquiring = false → (s.chan c).occupied = false →
      ∃ u : State,
        u = { s with channels := u.channels, ramps := u.ramps }
        ∧ (∀ i, i ≠ c → u.chan i = s.chan i)
        ∧ u.chan c =
            { s.chan c with
              occupied := true, input := true, qualification := 0, count := min ((s.chan c).count + 1) 65535
              continuousOn := 0, silence := 0, windowCount := (s.chan c).windowCount + 1, queueTimer := 0 }
        ∧ (∀ r, u.ramp r =
            if s.boundRamp c = some r then
              ({ s.ramp r with queue :=
                (s.ramp r).queue.afterActuation (s.chan c).duty (s.boundRamp c) (s.rampState r) r } : Ramp).reformed u r
            else s.ramp r)
        ∧ ((s.chan c).windowCount + 1 ≤ (s.chan c).chatter → exec (.actuation c) s = .next u)
        ∧ ((s.chan c).chatter < (s.chan c).windowCount + 1 →
            ∃ t, exec (.actuation c) s = .next t ∧ ChannelChanged c u t
              ∧ t.chan c =
                  { u.chan c with
                    state := .faulted .chatter, qualification := 0, periodMark := false, queueTimer := 0
                    served := false }
              ∧ t.faults = s.faults.onset
                  { kind := .detChatter, object := .detector, index := c.val, detail := (s.chan c).duty.role.code
                    uptime := s.unit.uptime }))
  ∧ ∀ (s : State) (c : Fin 32),
      s.resetting = true ∨ (s.chan c).state ≠ .active ∨ (s.chan c).acquiring = true ∨ (s.chan c).occupied = true →
      exec (.actuation c) s = .next s

/-- A qualified falling edge makes presence clear and holds the continuous-on timer at 0 without an actuation; an
acquisition takes the level of the input as presence, counting nothing; the bound ramp's demand and watched channels follow
(R5, R6, R18, R40, R42). That both commands are taken at any count of the qualification timer, and that the falling edge
records the input as low, is the model's choice (notes/assumptions/4.md), and so is the 0 at which that timer stands once it
has stopped (13.md). The model's choice too: an acquisition that shows a watched channel occupied outside METERING does not
set the armed mark, where R43 names no ramp state (21.md), and lanes called together join the list in the order of their
numbers (15.md). On a channel that is not ACTIVE, the edge on one that is acquiring or clear, the acquisition on one that is
not acquiring, and both in a reset, change nothing (R1, R4, R5, R14, R16, R163). -/
def Obligations.FallingEdgeAndAcquisition : Prop :=
  (∀ (s : State) (c : Fin 32), s.resetting = false → (s.chan c).state = .active →
      ((s.chan c).acquiring = false → (s.chan c).occupied = true →
        ∃ t, exec (.qualifiedFallingEdge c) s = .next t
          ∧ t = { s with channels := t.channels, ramps := t.ramps }
          ∧ (∀ i, i ≠ c → t.chan i = s.chan i)
          ∧ t.chan c =
              { s.chan c with
                occupied := false, input := false, qualification := 0, continuousOn := 0, queueTimer := 0
                served := false }
          ∧ ∀ r, t.ramp r = if s.boundRamp c = some r then (s.ramp r).reformed t r else s.ramp r)
      ∧ ((s.chan c).acquiring = true →
        ∃ t, exec (.acquisition c) s = .next t
          ∧ t = { s with channels := t.channels, ramps := t.ramps }
          ∧ (∀ i, i ≠ c → t.chan i = s.chan i)
          ∧ t.chan c =
              { s.chan c with
                occupied := (s.chan c).input, acquiring := false, qualification := 0, continuousOn := 0
                queueTimer := 0 }
          ∧ ∀ r, t.ramp r = if s.boundRamp c = some r then (s.ramp r).reformed t r else s.ramp r))
  ∧ ∀ (s : State) (c : Fin 32),
    (s.resetting = true ∨ (s.chan c).state ≠ .active ∨ (s.chan c).acquiring = true ∨ (s.chan c).occupied = false →
      exec (.qualifiedFallingEdge c) s = .next s)
    ∧ (s.resetting = true ∨ (s.chan c).state ≠ .active ∨ (s.chan c).acquiring = false →
      exec (.acquisition c) s = .next s)

/-- The stuck-on and silence expiries put an ACTIVE channel in FAULTED with the kind found, hold its counts and timers,
clear its period mark and raise the matching flag with the channel and its role (R11, R12, R14); the end of a chatter window
sets the window count to 0 and begins the next window (R13). That an acquiring channel that fails on silence holds its
acquiring mark and its window phase is the model's reading (notes/assumptions/13.md), that the stopped qualification timer
stands at 0 is its choice (13.md), and that the expiries are taken at any count of their timers, which are set to their
limits, is its choice too (4.md). So is that lanes called together join the list in the order of their numbers (15.md), and
that the armed mark is not set outside METERING (21.md). On a channel that is not ACTIVE, the stuck-on expiry on a clear
one, the silence expiry with silent time 0 or no METERING or SUSPENDED bound ramp, and all in a reset, change nothing (R1,
R11 to R14, R16, R163). -/
def Obligations.DetectorSupervisionFaults : Prop :=
  (∀ (s : State) (c : Fin 32), s.resetting = false → (s.chan c).state = .active →
      exec (.chatterWindowEnd c) s = .next (s.setChan c { s.chan c with windowCount := 0, windowPhase := 0 })
      ∧ ((s.chan c).occupied = true →
        ∃ t, exec (.stuckOnExpiry c) s = .next t ∧ ChannelChanged c s t
          ∧ t.chan c =
              { s.chan c with
                state := .faulted .stuckOn, continuousOn := (s.chan c).stuckOn * 6000
                qualification := 0, periodMark := false, queueTimer := 0, served := false }
          ∧ t.faults = s.faults.onset
              { kind := .detStuckOn, object := .detector, index := c.val, detail := (s.chan c).duty.role.code
                uptime := s.unit.uptime })
      ∧ ((s.chan c).silent ≠ 0 →
          (∃ r, s.boundRamp c = some r ∧ (s.rampState r = .metering ∨ s.rampState r = .suspended)) →
        ∃ t, exec (.silenceExpiry c) s = .next t ∧ ChannelChanged c s t
          ∧ t.chan c =
              { s.chan c with
                state := .faulted .silent, silence := (s.chan c).silent * 6000
                qualification := 0, periodMark := false, queueTimer := 0, served := false }
          ∧ t.faults = s.faults.onset
              { kind := .detSilent, object := .detector, index := c.val, detail := (s.chan c).duty.role.code
                uptime := s.unit.uptime }))
  ∧ ∀ (s : State) (c : Fin 32),
    (s.resetting = true ∨ (s.chan c).state ≠ .active → exec (.chatterWindowEnd c) s = .next s)
    ∧ (s.resetting = true ∨ (s.chan c).state ≠ .active ∨ (s.chan c).occupied = false →
      exec (.stuckOnExpiry c) s = .next s)
    ∧ (s.resetting = true ∨ (s.chan c).state ≠ .active ∨ (s.chan c).silent = 0
        ∨ (∀ r, s.boundRamp c = some r → s.rampState r ≠ .metering ∧ s.rampState r ≠ .suspended) →
      exec (.silenceExpiry c) s = .next s)

/-- The two states of a lane's demand and of its exit source (R18, R36), the bound ramp of a channel (R3), the code of its
role, and when a ramp has an ACTIVE ENTRY channel (R35). That the demand of an unbound lane is formed by the same words is
the model's reading: notes/assumptions/12.md. -/
def Obligations.DemandExitSourceAndBinding : Prop :=
  (∀ (s : State) (l : Fin 8),
      (s.demand l = true ↔
        (∃ c k, (s.chan c).duty = .demand l ∧ (s.chan c).state = .faulted k)
        ∨ (∀ c, (s.chan c).duty = .demand l → (s.chan c).state ≠ .active)
        ∨ ∃ c, (s.chan c).duty = .demand l ∧ (s.chan c).state = .active ∧ (s.chan c).occupied = true)
      ∧ (s.exitPassage l = true ↔ ∃ c, (s.chan c).duty = .passage l ∧ (s.chan c).state = .active))
  ∧ ∀ (s : State) (c : Fin 32),
    s.boundRamp c = (match (s.chan c).duty with
      | .unused => none
      | .mainline r | .entry r | .queue r => some r
      | .demand l | .passage l => (s.lane l).ramp)
    ∧ (s.chan c).duty.role.code = (match (s.chan c).duty with
      | .unused => 0 | .mainline _ => 1 | .entry _ => 2 | .queue _ => 3 | .demand _ => 4 | .passage _ => 5)
    ∧ ∀ r, s.someActive (.entry r) = true ↔ ∃ i, (s.chan i).duty = .entry r ∧ (s.chan i).state = .active

/-! ## Plans -/

/-- PLAN WRITE brings twelve fields into their ranges, then rate start and rate fallback between the clamped bounds; it is
refused with BAD_VALUE when the bounds cross or off occupancy reaches on occupancy, and otherwise writes the whole plan,
which is then in range (R48, R49, R50). -/
def Obligations.PlanWriteChecksAndWrites : Prop :=
  ∀ (s : State) (p : Fin 16) (f : PlanOperands), s.hears = true →
    ∃ x : PlanFields,
      x.target = max 50 (min f.target.toNat 400) ∧ x.gain = max 1 (min f.gain.toNat 40)
      ∧ x.rateMin = max 120 (min f.rateMin.toNat 1800) ∧ x.rateMax = max 240 (min f.rateMax.toNat 3600)
      ∧ (x.rateMin ≤ x.rateMax → x.rateStart = max x.rateMin (min f.rateStart.toNat x.rateMax)
          ∧ x.rateFallback = max x.rateMin (min f.rateFallback.toNat x.rateMax))
      ∧ x.maxWait = max 60 (min f.maxWait.toNat 900) ∧ x.spillOcc = max 100 (min f.spillOcc.toNat 1000)
      ∧ x.spillStep = min f.spillStep.toNat 600 ∧ x.onOcc = min f.onOcc.toNat 1000
      ∧ x.onCount = max 1 (min f.onCount.toNat 10) ∧ x.offOcc = min f.offOcc.toNat 1000
      ∧ x.offCount = max 1 (min f.offCount.toNat 30) ∧ x.offQueue = min f.offQueue.toNat 50
      ∧ (x.rateMax < x.rateMin ∨ x.onOcc ≤ x.offOcc →
          exec (.planWrite (byteOf p) f) s = .next (s.answered .badValue))
      ∧ (x.rateMin ≤ x.rateMax → x.offOcc < x.onOcc →
          x.InRange
          ∧ exec (.planWrite (byteOf p) f) s =
              .next ((s.setPlan p { defined := true, fields := x }).answered (takenIf (x = PlanFields.sent f))))
      ∧ ∀ b : Byte, 16 ≤ b.toNat → exec (.planWrite b f) s = .next (s.answered .badId)

/-- PLAN RETIRE: a number above 15 is BAD_ID, a plan that a ramp names as active or pending is IN_USE, and any other plan
becomes FREE with every field at its FREE value; nothing else changes (R56, R53). -/
def Obligations.PlanRetireFreesThePlan : Prop :=
  ∀ s : State, s.hears = true →
    (∀ b : Byte, 16 ≤ b.toNat → exec (.planRetire b) s = .next (s.answered .badId))
    ∧ ∀ p : Fin 16,
      ((∃ r, (s.ramp r).ctl.active = some p ∨ (s.ramp r).ctl.pending = some p) →
        exec (.planRetire (byteOf p)) s = .next (s.answered .inUse))
      ∧ ((∀ r, (s.ramp r).ctl.active ≠ some p ∧ (s.ramp r).ctl.pending ≠ some p) →
        exec (.planRetire (byteOf p)) s =
          .next ((s.setPlan p { defined := false, fields := PlanFields.free }).answered .ok))

/-! ## Ramp Control -/

/-- RAMP CONFIGURE clamps its operands, the position into 1 to the clamped capacity; a CLOSED ramp enters STANDBY with
them and starting values elsewhere; a STANDBY ramp takes them and restarts its interval only if the interval changes;
other states refuse (R33, R61, R10, R35). The item `fresh` is the model's own: notes/assumptions/22.md. -/
def Obligations.RampConfigureWrites : Prop :=
  ∀ (s : State) (r : Fin 4) (interval capacity position emptyCheck queueCheck : Byte) (holdOff : Half),
    s.hears = true →
    let run := exec (.rampConfigure (byteOf r) interval capacity position emptyCheck queueCheck holdOff) s
    let i := max 20 (min interval.toNat 120)
    let cap := max 5 (min capacity.toNat 250)
    let result := takenIf
      ((20 ≤ interval.toNat ∧ interval.toNat ≤ 120) ∧ (5 ≤ capacity.toNat ∧ capacity.toNat ≤ 250)
        ∧ (1 ≤ position.toNat ∧ position.toNat ≤ cap) ∧ (5 ≤ emptyCheck.toNat ∧ emptyCheck.toNat ≤ 60)
        ∧ (5 ≤ queueCheck.toNat ∧ queueCheck.toNat ≤ 60) ∧ holdOff.toNat ≤ 900)
    (s.rampRuns r = true ∨ s.rampState r = .stopping → run = .next (s.answered .wrongState))
    ∧ (s.rampState r = .closed →
        run = .next ((s.setRamp r
          { ctl := { RampControl.fullReset with
              state := .standby, interval := i, suspendHoldOff := min holdOff.toNat 900 }
            station := Station.start
            queue := { Queue.fullReset with
              capacity := cap, position := max 1 (min position.toNat cap)
              emptyCheck := max 5 (min emptyCheck.toNat 60), queueCheck := max 5 (min queueCheck.toNat 60)
              entryDegraded := !s.someActive (.entry r) }
            rate := { Rate.fullReset with ceiling := s.ceilingOf r }
            sched := { waiting := [], sinceGrant := 0, fresh := false } }).answered result))
    ∧ (s.rampState r = .standby →
        ∃ t : State, run = .next (t.answered result)
          ∧ t = { s with ramps := t.ramps, channels := t.channels }
          ∧ (∀ j, j ≠ r → t.ramp j = s.ramp j)
          ∧ t.ramp r =
              { s.ramp r with
                ctl := { (s.ramp r).ctl with
                  interval := i, suspendHoldOff := min holdOff.toNat 900
                  elapsed := if i = (s.ramp r).ctl.interval then (s.ramp r).ctl.elapsed else 0 }
                queue := { (s.ramp r).queue with
                  capacity := cap, position := max 1 (min position.toNat cap)
                  emptyCheck := max 5 (min emptyCheck.toNat 60), queueCheck := max 5 (min queueCheck.toNat 60) } }
          ∧ ∀ c, t.chan c =
              if i ≠ (s.ramp r).ctl.interval ∧ s.boundRamp c = some r then
                { s.chan c with onTime := 0, count := 0, periodMark := false }
              else s.chan c)
    ∧ ∀ b : Byte, 4 ≤ b.toNat →
        exec (.rampConfigure b interval capacity position emptyCheck queueCheck holdOff) s = .next (s.answered .badId)

/-- RAMP CLOSE: a number above 3 is BAD_ID, a ramp not in STANDBY refuses with WRONG_STATE, one with a lane or a channel
bound to it with IN_USE; else every field of its record returns to its full-reset value and nothing else changes (R62). -/
def Obligations.RampCloseReturnsTheRecord : Prop :=
  ∀ s : State, s.hears = true →
    (∀ b : Byte, 4 ≤ b.toNat → exec (.rampClose b) s = .next (s.answered .badId))
    ∧ ∀ r : Fin 4,
      (s.rampState r ≠ .standby → exec (.rampClose (byteOf r)) s = .next (s.answered .wrongState))
      ∧ (s.rampState r = .standby →
          (∃ l, (s.lane l).ramp = some r) ∨ (∃ c, s.boundRamp c = some r) →
          exec (.rampClose (byteOf r)) s = .next (s.answered .inUse))
      ∧ (s.rampState r = .standby → (∀ l, (s.lane l).ramp ≠ some r) → (∀ c, s.boundRamp c ≠ some r) →
          exec (.rampClose (byteOf r)) s = .next ((s.setRamp r (State.reset.ramp r)).answered .ok))

/-- RAMP PLAN: its checks in order, then the reference changes of R72 and R54: in STANDBY the named plan or none becomes
active, in METERING, SUSPENDED and STOPPING it becomes pending. Naming none in STANDBY holds the run counters at 0 (R70;
notes/assumptions/11.md). RAMP MODE writes the mode of a ramp that is not CLOSED; the run counters become 0 if its effective
mode changes, which it does at stage 0 alone; every other record stands (R69). The effective mode is the mode at stage 0,
and AUTO at stage 1 and 2 (R69). -/
def Obligations.RampPlanAndMode : Prop :=
  (∀ (s : State) (plan : Byte), s.hears = true →
    (∀ b : Byte, 4 ≤ b.toNat → exec (.rampPlan b plan) s = .next (s.answered .badId))
    ∧ ∀ r : Fin 4,
      let run := exec (.rampPlan (byteOf r) plan) s
      (16 ≤ plan.toNat → plan ≠ 0xFF → run = .next (s.answered .badId))
      ∧ (plan.toNat < 16 ∨ plan = 0xFF → s.rampState r = .closed → run = .next (s.answered .wrongState))
      ∧ (∀ p : Fin 16, plan = byteOf p → s.rampState r ≠ .closed → (s.plan p).defined = false →
          run = .next (s.answered .undefined))
      ∧ ∀ named : Option (Fin 16), plan = indexByte named → s.rampState r ≠ .closed →
          (∀ p, named = some p → (s.plan p).defined = true) →
          run = .next ((s.setRamp r { s.ramp r with
            ctl :=
              if s.rampState r = .standby then
                { (s.ramp r).ctl with
                  active := named, pending := none
                  onRun := if named = none then 0 else (s.ramp r).ctl.onRun
                  offRun := if named = none then 0 else (s.ramp r).ctl.offRun }
              else { (s.ramp r).ctl with pending := named } }).answered .ok))
  ∧ (∀ (s : State) (r : Fin 4),
    (s.sup.stage = .present → s.effectiveMode r = (s.ramp r).ctl.mode)
    ∧ (s.sup.stage = .one ∨ s.sup.stage = .two → s.effectiveMode r = .auto))
  ∧ Mode.host.code = 0 ∧ Mode.auto.code = 1
  ∧ ∀ (s : State) (mode : Byte), s.hears = true →
    (∀ b : Byte, 4 ≤ b.toNat → exec (.rampMode b mode) s = .next (s.answered .badId))
    ∧ ∀ r : Fin 4,
      (s.rampState r = .closed → exec (.rampMode (byteOf r) mode) s = .next (s.answered .wrongState))
      ∧ (s.rampState r ≠ .closed → 1 < mode.toNat →
          exec (.rampMode (byteOf r) mode) s = .next (s.answered .badValue))
      ∧ ∀ m : Mode, mode = byteOf m.code → s.rampState r ≠ .closed →
          exec (.rampMode (byteOf r) mode) s =
            .next ((s.setRamp r { s.ramp r with
              ctl := { (s.ramp r).ctl with
                mode := m
                onRun := if s.sup.stage = .present ∧ m ≠ (s.ramp r).ctl.mode then 0 else (s.ramp r).ctl.onRun
                offRun :=
                  if s.sup.stage = .present ∧ m ≠ (s.ramp r).ctl.mode then 0 else (s.ramp r).ctl.offRun } }).answered
              .ok)

/-- RAMP START: the first failing condition of R64 gives the result; with all of them met the ramp enters METERING as
R65 and R84 say. Its member lanes are then all DARK or FAULT_LOCKED (R67, kept by the display invariant). The moment
of the entry to METERING, which the item `fresh` holds, is the model's choice: notes/assumptions/22.md. -/
def Obligations.RampStartStarts : Prop :=
  ∀ s : State, s.hears = true →
    (∀ b : Byte, 4 ≤ b.toNat → exec (.rampStart b) s = .next (s.answered .badId))
    ∧ ∀ r : Fin 4,
      (s.rampState r ≠ .standby → exec (.rampStart (byteOf r)) s = .next (s.answered .wrongState))
      ∧ (∀ e, s.rampState r = .standby → StartFails s r = some e →
          exec (.rampStart (byteOf r)) s = .next (s.answered e))
      ∧ ∀ p, s.rampState r = .standby → StartFails s r = none → (s.ramp r).ctl.active = some p →
          EveryLaneOut s r →
          ∃ t, exec (.rampStart (byteOf r)) s = .next (t.answered .ok)
            ∧ Started r (s.plan p).fields.rateStart s t

/-- RAMP STOP: a CLOSED ramp refuses with WRONG_STATE, a STANDBY or STOPPING one returns OK unchanged, and a METERING
or SUSPENDED one enters STOPPING with its lanes on their stop paths, and STANDBY at once if none is left lit (R66,
R67, R123). That the stop ends the moment of an entry to METERING (the item `fresh`) is the model's choice:
notes/assumptions/22.md. -/
def Obligations.RampStopStops : Prop :=
  ∀ s : State, s.hears = true →
    (∀ b : Byte, 4 ≤ b.toNat → exec (.rampStop b) s = .next (s.answered .badId))
    ∧ ∀ r : Fin 4,
      (s.rampState r = .closed → exec (.rampStop (byteOf r)) s = .next (s.answered .wrongState))
      ∧ (s.rampState r = .standby ∨ s.rampState r = .stopping →
          exec (.rampStop (byteOf r)) s = .next (s.answered .ok))
      ∧ (s.rampRuns r = true →
          ∃ t, exec (.rampStop (byteOf r)) s = .next (t.answered .ok) ∧ Stopped r s t)

/-- RAMP SUSPEND: the checks of R75 in their order, then SUSPENDED with the clamped maximum, no override, the count,
the spill and the correction timers cleared, the list emptied, the silence timers restarted and the lanes in RED_READY
resting; the rate part stands (R75, R32, R12, R122, R95). The item `fresh` is the model's own:
notes/assumptions/22.md. -/
def Obligations.RampSuspendRests : Prop :=
  ∀ (s : State) (minutes : Byte), s.hears = true →
    (∀ b : Byte, 4 ≤ b.toNat → exec (.rampSuspend b minutes) s = .next (s.answered .badId))
    ∧ ∀ r : Fin 4,
      let run := exec (.rampSuspend (byteOf r) minutes) s
      (s.rampState r ≠ .metering → run = .next (s.answered .wrongState))
      ∧ (s.rampState r = .metering → (s.ramp r).ctl.holdOff ≠ 0 → run = .next (s.answered .tooSoon))
      ∧ (s.rampState r = .metering → (s.ramp r).ctl.holdOff = 0 →
          (∃ l, (s.lane l).ramp = some r ∧ (s.lane l).redSuspect = true) → run = .next (s.answered .faultPending))
      ∧ (s.rampState r = .metering → (s.ramp r).ctl.holdOff = 0 →
          (∀ l, (s.lane l).ramp = some r → (s.lane l).redSuspect = false) →
          ∃ t : State, run = .next (t.answered (takenIf (1 ≤ minutes.toNat ∧ minutes.toNat ≤ 120)))
            ∧ t = { s with ramps := t.ramps, lanes := t.lanes, channels := t.channels }
            ∧ (∀ i, i ≠ r → t.ramp i = s.ramp i)
            ∧ t.ramp r =
                { s.ramp r with
                  ctl := { (s.ramp r).ctl with
                    state := .suspended, override := none, onRun := 0, offRun := 0
                    suspension := some { minutes := max 1 (min minutes.toNat 120), run := 0 } }
                  queue := { (s.ramp r).queue with stored := 0, spill := false, emptyTimer := 0, armed := false }
                  sched := { (s.ramp r).sched with waiting := [], fresh := false } }
            ∧ (∀ l, t.lane l =
                if (s.lane l).ramp = some r ∧ (s.lane l).state = .redReady then (s.lane l).enter .resting
                else s.lane l)
            ∧ ∀ c, t.chan c =
                { s.chan c with
                  queueTimer := if (s.chan c).duty = .queue r then 0 else (s.chan c).queueTimer
                  served := if (s.chan c).duty = .queue r then false else (s.chan c).served
                  silence :=
                    if s.boundRamp c = some r ∧ (s.chan c).state = .active then 0 else (s.chan c).silence })

/-- RAMP RESUME is refused outside SUSPENDED; taken, it returns the ramp to METERING as the suspension expiry does: hold-off
set, ready at once with the headway held, the count from 0 and the empty correction armed, resting lanes in AMBER, able DARK
lanes proving or waiting for the supply (R76, R77, R107, R32, R122, R115). What the moment of the return is: the model's
choice, notes/assumptions/22.md. So is that SUSPENSION_EXPIRY is taken at any remaining time of the suspension: 4.md. And so
is that lanes called together join the list in the order of their numbers: 15.md. Outside SUSPENDED, and in a reset,
SUSPENSION_EXPIRY changes nothing (R76, R163). -/
def Obligations.ResumeReturnsToMetering : Prop :=
  ∀ (s : State) (r : Fin 4),
    (s.hears = true → s.rampState r ≠ .suspended →
      exec (.rampResume (byteOf r)) s = .next (s.answered .wrongState))
    ∧ (∀ b : Byte, s.hears = true → 4 ≤ b.toNat → exec (.rampResume b) s = .next (s.answered .badId))
    ∧ (s.resetting = false → s.rampState r = .suspended →
      ∃ t : State,
        (s.hears = true → exec (.rampResume (byteOf r)) s = .next (t.answered .ok))
        ∧ exec (.suspensionExpiry r) s = .next t
        ∧ t = { s with ramps := t.ramps, lanes := t.lanes, channels := t.channels }
        ∧ (∀ i, i ≠ r → t.ramp i = s.ramp i)
        ∧ t.ramp r =
            ({ s.ramp r with
              ctl := { (s.ramp r).ctl with
                state := .metering, suspension := none
                holdOff := (s.ramp r).ctl.suspendHoldOff, holdOffRun := 0 }
              queue := { (s.ramp r).queue with stored := 0, spill := false, emptyTimer := 0, armed := true }
              sched := { (s.ramp r).sched with sinceGrant := (s.ramp r).rate.headway, fresh := true } } : Ramp).reformed t r
        ∧ (∀ l, t.lane l =
            if (s.lane l).ramp = some r ∧ (s.lane l).state = .resting then (s.lane l).enter .amber
            else if (s.lane l).ramp = some r ∧ (s.lane l).state = .dark ∧ (s.lane l).able = true then
              (s.lane l).enter (if s.lamp.present then .proving else .supplyOut)
            else s.lane l)
        ∧ ∀ c, t.chan c =
            { s.chan c with
              queueTimer := if (s.chan c).duty = .queue r then 0 else (s.chan c).queueTimer
              served := if (s.chan c).duty = .queue r then false else (s.chan c).served
              silence :=
                if s.boundRamp c = some r ∧ (s.chan c).state = .active then 0 else (s.chan c).silence })
    ∧ (s.resetting = true ∨ s.rampState r ≠ .suspended → exec (.suspensionExpiry r) s = .next s)

/-- RAMP OVERRIDE: refused outside METERING and at stage 1 or 2; else the override stands with its clamped rate and minutes
and the rate becomes the greater of 94 and the lesser of that rate and the ceiling, decision OVERRIDE, stage fields 0;
OVERRIDE CANCEL and the expiry make it absent and let the rate stand; the end of the hold-off sets it to 0 (R73, R74, R77,
R91, R95). The headway goes to the Scheduler, and at the moment of a start or a resume since-last-grant follows it (R100,
R107). What that moment is: the model's choice, notes/assumptions/22.md. So is that OVERRIDE_EXPIRY and HOLD_OFF_END are
taken at any count of their timers: 4.md. HOLD_OFF_END outside METERING, OVERRIDE_EXPIRY with no override standing, and both
in a reset, change nothing (R74, R77, R163). -/
def Obligations.OverrideAndHoldOff : Prop :=
  ∀ (s : State) (r : Fin 4) (rate : Half) (minutes : Byte),
    (s.hears = true →
      (s.rampState r ≠ .metering →
        exec (.rampOverride (byteOf r) rate minutes) s = .next (s.answered .wrongState))
      ∧ (s.rampState r = .metering → s.sup.stage ≠ .present →
        exec (.rampOverride (byteOf r) rate minutes) s = .next (s.answered .supervision))
      ∧ (s.rampState r = .metering → s.sup.stage = .present →
        let wanted := max 60 (min rate.toNat 3600)
        let final := max 94 (min wanted (s.ramp r).rate.ceiling)
        exec (.rampOverride (byteOf r) rate minutes) s =
          .next ((s.setRamp r { s.ramp r with
            ctl := { (s.ramp r).ctl with
              override := some { rate := wanted, minutes := max 1 (min minutes.toNat 240), run := 0 } }
            rate :=
              { final := final, headway := ceilDiv 36000 final, decision := .override, e := 0, r1 := 0, r2 := 0
                rWait := 0, rSpill := 0, ceiling := (s.ramp r).rate.ceiling }
            sched := (s.ramp r).sched.handed (s.ramp r).rate.headway (ceilDiv 36000 final) }).answered
            (takenIf ((60 ≤ rate.toNat ∧ rate.toNat ≤ 3600) ∧ 1 ≤ minutes.toNat ∧ minutes.toNat ≤ 240))))
      ∧ exec (.rampOverrideCancel (byteOf r)) s =
          .next ((s.setRamp r { s.ramp r with ctl := { (s.ramp r).ctl with override := none } }).answered .ok)
      ∧ ∀ b : Byte, 4 ≤ b.toNat →
          exec (.rampOverride b rate minutes) s = .next (s.answered .badId)
          ∧ exec (.rampOverrideCancel b) s = .next (s.answered .badId))
    ∧ (s.resetting = false →
      exec (.overrideExpiry r) s =
        .next (s.setRamp r { s.ramp r with ctl := { (s.ramp r).ctl with override := none } })
      ∧ (s.rampState r = .metering →
        exec (.holdOffEnd r) s =
          .next (s.setRamp r { s.ramp r with ctl := { (s.ramp r).ctl with holdOff := 0, holdOffRun := 0 } })))
    ∧ (s.resetting = true ∨ s.rampState r ≠ .metering → exec (.holdOffEnd r) s = .next s)
    ∧ (s.resetting = true ∨ (s.ramp r).ctl.override = none → exec (.overrideExpiry r) s = .next s)

/-! ## Queue Accounting -/

/-- The queue correction raises the stored count to the queue position, counts a correction only when it changed the count,
and marks the channel served; the empty correction makes the count 0 once per arming; the empty timer runs on a METERING
ramp while it has a watched DEMAND channel and no watched presence (R41 to R43). That the two corrections are taken at any
count of the queue and the empty timer, which they set to the limit, is the model's choice: notes/assumptions/4.md. A queue
correction on a channel that is no ACTIVE, occupied and unserved QUEUE channel of a METERING or STOPPING ramp, an empty
correction without its timer running or its mark, and both in a reset, change nothing (R40, R42, R43, R163). -/
def Obligations.CorrectionsOfTheCount : Prop :=
  (∀ s : State, s.resetting = false →
      (∀ (c : Fin 32) (r : Fin 4), (s.chan c).duty = .queue r → (s.chan c).state = .active → (s.chan c).occupied = true →
        (s.chan c).served = false → s.rampState r = .metering ∨ s.rampState r = .stopping →
        exec (.queueCorrection c) s =
          .next ((s.setChan c
            { s.chan c with queueTimer := (s.ramp r).queue.queueCheck * 10, served := true }).setRamp r
              { s.ramp r with
                queue :=
                  if (s.ramp r).queue.stored < (s.ramp r).queue.position then
                    { (s.ramp r).queue with
                      stored := (s.ramp r).queue.position
                      corrections := min ((s.ramp r).queue.corrections + 1) 255 }
                  else (s.ramp r).queue }))
      ∧ (∀ r : Fin 4, s.emptyRuns r = true → (s.ramp r).queue.armed = true →
        exec (.emptyCorrection r) s =
          .next (s.setRamp r
            { s.ramp r with
              queue := { (s.ramp r).queue with
                emptyTimer := (s.ramp r).queue.emptyCheck * 10, armed := false, stored := 0
                corrections :=
                  if (s.ramp r).queue.stored = 0 then (s.ramp r).queue.corrections
                  else min ((s.ramp r).queue.corrections + 1) 255 } }))
      ∧ (∀ r : Fin 4, s.emptyRuns r = false ∨ (s.ramp r).queue.armed = false → exec (.emptyCorrection r) s = .next s)
      ∧ ∀ r : Fin 4, s.emptyRuns r = true ↔
          s.rampState r = .metering
          ∧ (∃ c l, (s.chan c).duty = .demand l ∧ (s.chan c).state = .active ∧ (s.lane l).ramp = some r
              ∧ (s.lane l).able = true)
          ∧ (∀ c, (s.chan c).duty = .queue r → (s.chan c).state = .active → (s.chan c).occupied = false)
          ∧ ∀ c l, (s.chan c).duty = .demand l → (s.chan c).state = .active → (s.lane l).ramp = some r →
              (s.lane l).able = true → (s.chan c).occupied = false)
  ∧ ∀ s : State,
    (∀ c : Fin 32,
      s.resetting = true ∨ (s.chan c).state ≠ .active ∨ (s.chan c).occupied = false ∨ (s.chan c).served = true
        ∨ (∀ r, (s.chan c).duty = .queue r → s.rampState r ≠ .metering ∧ s.rampState r ≠ .stopping) →
      exec (.queueCorrection c) s = .next s)
    ∧ ∀ r : Fin 4, s.resetting = true → exec (.emptyCorrection r) s = .next s

/-! ## The grant and the interval close -/

/-- A METERING ramp whose headway has run since its last grant grants the head of its waiting list: the lane enters GREEN
and counts a release, since-last-grant becomes 0, and a lane without a PASSAGE loop counts its vehicle out (or a slip); no
other record changes. Without readiness, with an empty list or with a head that is not in RED_READY, and in a reset, nothing
is granted (R38, R100, R104, R105, R119, R163). That a grant ends the moment of a start or a resume is the model's choice:
notes/assumptions/22.md. -/
def Obligations.GrantGivesGreen : Prop :=
  ∀ (s : State) (r : Fin 4), s.resetting = false →
    (∀ l rest, s.rampState r = .metering → (s.ramp r).rate.headway ≤ (s.ramp r).sched.sinceGrant →
      (s.ramp r).sched.waiting = l :: rest → (s.lane l).state = .redReady →
      exec (.grant r) s =
        .next ((s.setRamp r
          { s.ramp r with
            sched := { waiting := rest, sinceGrant := 0, fresh := false }
            queue :=
              if s.exitPassage l = true then (s.ramp r).queue
              else if (s.ramp r).queue.stored = 0 then
                { (s.ramp r).queue with slip := min ((s.ramp r).queue.slip + 1) 255 }
              else { (s.ramp r).queue with stored := (s.ramp r).queue.stored - 1 } }).setLane l
          { (s.lane l).enter .green with releases := ((s.lane l).releases + 1) % 65536 }))
    ∧ ((s.ramp r).sched.sinceGrant < (s.ramp r).rate.headway ∨ (s.ramp r).sched.waiting = [] ∨ s.rampState r ≠ .metering →
      exec (.grant r) s = .next s)
    ∧ (∀ l rest, (s.ramp r).sched.waiting = l :: rest → (s.lane l).state ≠ .redReady → exec (.grant r) s = .next s)

/-- Steps 1 to 3 of an interval close, in every state but CLOSED: the channels of the ramp latch, the station is formed from
its valid MAINLINE channels or found LOST, and a pending plan becomes active unless the ramp is STANDBY; a ramp that is not
METERING keeps its queue, rate and list, and the onset of loss alone is raised. With effective mode HOST the close is these
and the metering steps, and no more (R8, R9, R23 to R25, R27, R28, R54, R63, R69). That INTERVAL_CLOSE is taken at any
interval elapsed is the model's choice: notes/assumptions/4.md. In CLOSED, and in a reset, INTERVAL_CLOSE changes nothing
(R59, R63, R163). -/
def Obligations.IntervalCloseMeasures : Prop :=
  (∀ (s : State) (r : Fin 4), s.rampState r ≠ .closed →
      let t := s.closeMeasured r
      let cs := (List.finRange 32).filter fun c => (t.chan c).duty = .mainline r && (t.chan c).latchedValid
      let i := (s.ramp r).ctl.interval
      (s.resetting = false → s.effectiveMode r = .host → exec (.intervalClose r) s = .next t)
      ∧ t = { s with channels := t.channels, ramps := t.ramps, faults := t.faults }
      ∧ (∀ j, j ≠ r → t.ramp j = s.ramp j)
      ∧ (∀ c, s.boundRamp c ≠ some r → t.chan c = s.chan c)
      ∧ (∀ c, s.boundRamp c = some r → t.chan c =
          { s.chan c with
            latchedOnTime := (s.chan c).onTime, latchedCount := (s.chan c).count
            latchedOcc := (s.chan c).onTime * 10 / i, latchedValid := (s.chan c).periodMark
            onTime := if (s.chan c).isFaulted = true then (s.chan c).onTime else 0
            count := if (s.chan c).isFaulted = true then (s.chan c).count else 0
            periodMark := decide ((s.chan c).state = .active) })
      ∧ (t.ramp r).station =
          (if cs = [] then { (s.ramp r).station with valid := false, size := 0 }
           else
            { valid := true
              occupancy := (2 * (cs.map fun c => (t.chan c).latchedOcc).sum + cs.length) / (2 * cs.length)
              flow := min 65535 ((cs.map fun c => (t.chan c).latchedCount).sum * 3600 / i)
              size := cs.length })
      ∧ (t.ramp r).ctl =
          { (s.ramp r).ctl with
            elapsed := 0
            active := if s.rampState r = .standby then (s.ramp r).ctl.active
              else (s.ramp r).ctl.pending.or (s.ramp r).ctl.active
            pending := if s.rampState r = .standby then (s.ramp r).ctl.pending else none }
      ∧ (s.rampState r ≠ .metering →
          (t.ramp r).queue = (s.ramp r).queue ∧ (t.ramp r).rate = (s.ramp r).rate ∧ (t.ramp r).sched = (s.ramp r).sched
          ∧ t.faults =
              if cs = [] ∧ (s.ramp r).station.valid = true then
                s.faults.onset
                  { kind := .mainlineLost, object := .ramp, index := r.val
                    detail := (List.finRange 32).countP fun c => (s.chan c).duty = .mainline r
                    uptime := s.unit.uptime }
              else s.faults))
  ∧ ∀ (s : State) (r : Fin 4), s.resetting = true ∨ s.rampState r = .closed → exec (.intervalClose r) s = .next s

/-- Steps 4 and 5 of the close of a METERING ramp with active plan `p` after step 3: spill is judged and its onset
raised after a loss of the mainline; the rate goes through feedback or fallback, bounds, wait and spill floors and the
ceiling, with its headway and decision, or is the override's (R44, R45, R85 to R93); the Scheduler takes the headway
(R100), and at the moment of a start or a resume since-last-grant with it (R107). What that moment is: the model's
choice, notes/assumptions/22.md. -/
def Obligations.CloseComputesTheRate : Prop :=
  ∀ (s : State) (r : Fin 4) (p : Fin 16), s.rampState r = .metering →
    (s.ramp r).ctl.pending.or (s.ramp r).ctl.active = some p →
    let t := s.closeMeasured r
    let f := (s.plan p).fields
    let q := (s.ramp r).queue
    let y := (s.ramp r).rate
    let x := (t.ramp r).rate
    ∃ spills : Bool,
      (spills = true ↔ (∃ c, (t.chan c).duty = .queue r ∧ (t.chan c).latchedValid = true
          ∧ f.spillOcc ≤ (t.chan c).latchedOcc) ∨ q.stored = q.capacity)
      ∧ (t.ramp r).queue = { q with spill := spills } ∧ (t.ramp r).sched = (s.ramp r).sched.handed y.headway x.headway
      ∧ (let lost :=
          if (t.ramp r).station.valid = false ∧ (s.ramp r).station.valid = true then
            s.faults.onset
              { kind := .mainlineLost, object := .ramp, index := r.val
                detail := (List.finRange 32).countP fun c => (s.chan c).duty = .mainline r
                uptime := s.unit.uptime }
          else s.faults
        t.faults =
          if spills = true ∧ q.spill = false then
            lost.onset { kind := .queueSpill, object := .ramp, index := r.val, detail := 0, uptime := s.unit.uptime }
          else lost)
      ∧ x.ceiling = y.ceiling ∧ x.headway = ceilDiv 36000 x.final
      ∧ (∀ o, (s.ramp r).ctl.override = some o →
          x.final = max 94 (min o.rate y.ceiling) ∧ x.decision = .override
          ∧ x.e = 0 ∧ x.r1 = 0 ∧ x.r2 = 0 ∧ x.rWait = 0 ∧ x.rSpill = 0)
      ∧ ((s.ramp r).ctl.override = none →
          x.e = (if (t.ramp r).station.valid = true then (f.target : Int) - (t.ramp r).station.occupancy else 0)
          ∧ x.r1 = (if (t.ramp r).station.valid = true then (y.final : Int) + f.gain * x.e else f.rateFallback)
          ∧ (f.rateMin ≤ f.rateMax → (x.r2 : Int) = max (f.rateMin : Int) (min x.r1 f.rateMax))
          ∧ x.rWait = ceilDiv (q.stored * 3600) f.maxWait
          ∧ x.rSpill = (if spills = true then y.final + f.spillStep else 0)
          ∧ x.final = min (max x.r2 (max x.rWait x.rSpill)) y.ceiling
          ∧ x.decision =
              if y.ceiling < max x.r2 (max x.rWait x.rSpill) then .cap
              else if x.r2 < x.rSpill ∧ x.rWait ≤ x.rSpill then .spill
              else if x.r2 < x.rWait then .wait
              else if x.r1 < f.rateMin then .min
              else if f.rateMax < x.r1 then .max
              else if (t.ramp r).station.valid = true then .feedback
              else .fallback)

/-- Automatic activation at a close with effective mode AUTO: on-run counts closes at or above the on occupancy in
STANDBY and starts the ramp at the on count if the start conditions hold and no restart is pending; off-run counts
closes at or below the off occupancy and queue in METERING and stops it at the off count; AUTO_CHANGE is raised;
elsewhere both counters are 0 (R70, R71, R166). That the close is taken at any interval elapsed is the model's choice
(notes/assumptions/4.md), and so is the moment of an entry to METERING, which a start begins and a stop
ends (22.md). -/
def Obligations.AutomaticActivation : Prop :=
  ∀ (s : State) (r : Fin 4), s.resetting = false → s.rampState r ≠ .closed → s.effectiveMode r = .auto →
    let m := s.closeMeasured r
    let run := exec (.intervalClose r) s
    let runs := fun onRun offRun : Nat =>
      m.setRamp r { m.ramp r with ctl := { (m.ramp r).ctl with onRun := onRun, offRun := offRun } }
    let change := fun detail : Nat => m.faults.onset
      { kind := .autoChange, object := .ramp, index := r.val, detail := detail, uptime := s.unit.uptime }
    ((s.rampState r = .standby ∨ s.rampState r = .metering → (m.ramp r).ctl.active = none) → run = .next (runs 0 0))
    ∧ (∀ p, s.rampState r = .standby → (m.ramp r).ctl.active = some p →
        let f := (s.plan p).fields
        let n := if (m.ramp r).station.valid = true ∧ f.onOcc ≤ (m.ramp r).station.occupancy then
          (s.ramp r).ctl.onRun + 1 else 0
        (n < f.onCount → run = .next (runs n 0))
        ∧ (f.onCount ≤ n → StartFails m r ≠ none ∨ s.unit.restartPending = true → run = .next (runs 0 0))
        ∧ (f.onCount ≤ n → StartFails m r = none → s.unit.restartPending = false → EveryLaneOut s r →
            ∃ u : State, Started r f.rateStart m u ∧ run = .next { u with faults := change 1 }))
    ∧ (∀ p, s.rampState r = .metering → (m.ramp r).ctl.active = some p →
        let f := (s.plan p).fields
        let n := if (m.ramp r).station.valid = true ∧ (m.ramp r).station.occupancy ≤ f.offOcc
            ∧ (s.ramp r).queue.stored ≤ f.offQueue then (s.ramp r).ctl.offRun + 1 else 0
        (n < f.offCount → run = .next (runs 0 n))
        ∧ (f.offCount ≤ n → ∃ u : State, Stopped r m u ∧ run = .next { u with faults := change 2 }))

/-! ## Lanes -/

/-- What the entry of a lane to a state does to its record (timer, settle, suspicion and re-check timer, aux mark, conflict
timer and mark, proving items, leaving), the aspect each state shows, none while unbound, the stop path by state, and which
lanes are out, locked, red, lit and able (R112 to R114, R116, R123, R124, R126, R134 to R136, R138, R141, R142; section
8.3). The items of the conflict timer before the last sample are the model's own: notes/assumptions/5.md. The mark that an
entry to SUPPLY_OUT leaves is the model's way to drop a conflict of the same moment: 23.md. -/
def Obligations.LaneEntersAState : Prop :=
  ∀ (x : Lane) (st : LaneState),
    let y := x.enter st
    (y = { x with
        state := st, timer := y.timer, settle := y.settle, redSuspect := y.redSuspect, recheck := y.recheck
        auxMark := y.auxMark, conflict := y.conflict, conflictMark := y.conflictMark, conflictBefore := y.conflictBefore
        markBefore := y.markBefore, clearRun := 0, seen := Lamps.dark, provingLeft := if st = .proving then 300 else 0
        leaving := y.leaving, inService := y.inService })
    ∧ y.timer = (match st with
        | .proving => 30 | .starting => x.startAmber | .redMin => x.minRed | .green => x.greenTime
        | .amber => x.amberTime | .flush => x.flushGreen
        | .dark | .redReady | .resting | .supplyOut | .faultLocked _ => 0)
    ∧ y.settle = (if st.aspect = x.state.aspect then x.settle else some 30)
    ∧ y.redSuspect = (x.redSuspect && decide (st = .redMin ∨ st = .redReady))
    ∧ y.auxMark = (x.auxMark
        && !decide (st = .starting ∨ st = .green ∨ st = .amber ∨ st = .resting ∨ st = .flush))
    ∧ y.recheck = (if st = .redMin ∨ st = .redReady then x.recheck else 0)
    ∧ (st = .supplyOut →
        y.conflict = 0 ∧ y.conflictMark = .dropped ∧ y.conflictBefore = 0 ∧ y.markBefore = .counting)
    ∧ (st ≠ .supplyOut →
        y.conflict = x.conflict ∧ y.conflictMark = x.conflictMark ∧ y.conflictBefore = x.conflictBefore
        ∧ y.markBefore = x.markBefore)
    ∧ (y.isOut = true → y.leaving = false ∧ y.inService = (x.inService && !x.leaving))
    ∧ (y.isOut = false → y.leaving = x.leaving ∧ y.inService = x.inService)
    ∧ (x.ramp = none → x.aspect = .none)
    ∧ (x.ramp ≠ none → x.aspect = match x.state with
        | .starting | .amber => .amber
        | .redMin | .redReady => .red
        | .green | .resting | .flush => .green
        | .dark | .proving | .supplyOut | .faultLocked _ => .none)
    ∧ (x.state = .proving ∨ x.state = .starting ∨ x.state = .supplyOut → x.stopPath = x.enter .dark)
    ∧ (x.state = .redReady ∨ x.state = .green ∨ x.state = .resting → x.stopPath = x.enter .flush)
    ∧ (x.isOut = true ∨ x.state = .redMin ∨ x.state = .amber ∨ x.state = .flush → x.stopPath = x)
    ∧ (x.isLocked = true ↔ ∃ cause, x.state = .faultLocked cause)
    ∧ (x.isOut = true ↔ x.state = .dark ∨ ∃ cause, x.state = .faultLocked cause)
    ∧ (x.isRed = true ↔ x.state = .redMin ∨ x.state = .redReady)
    ∧ (x.isLit = true ↔ x.state = .starting ∨ x.state = .redMin ∨ x.state = .redReady ∨ x.state = .green
        ∨ x.state = .amber ∨ x.state = .resting ∨ x.state = .flush)
    ∧ (x.able = true ↔ x.ramp ≠ none ∧ x.inService = true ∧ x.leaving = false ∧ ∀ cause, x.state ≠ .faultLocked cause)
    ∧ x.aspect.code = (match x.aspect with | .none => 0 | .red => 1 | .amber => 2 | .green => 3)

/-- What a ramp does when an event of its member lanes is handed on: its waiting list, empty timer and ceiling are formed
anew, its armed mark set while it is METERING and a watched presence is occupied, the rate of a METERING or SUSPENDED ramp
is cut to a ceiling it exceeds, a ramp without an able lane is stopped, and a STOPPING one with every lane DARK or
FAULT_LOCKED enters STANDBY (R42, R43, R67, R68, R83, R102, R103, R112); a headway cut at the moment of a start or a resume
sets since-last-grant (R107). A lane may be on its ramp's list exactly when it is in RED_READY, not red-suspect and has
demand, and the ramp is METERING (R101, R102); the watched channels are the ACTIVE QUEUE channels of the ramp and the ACTIVE
DEMAND channels of its able lanes (R42). What that moment is: the model's choice, notes/assumptions/22.md. So is that lanes
called together join in the order of their numbers, where R102 allows either order (15.md), and that the armed mark is not
set outside METERING, where R43 names no ramp state (21.md). -/
def Obligations.RampHearsItsLanes : Prop :=
  ∀ (s : State) (r : Fin 4),
    let t := s.refreshRamp r
    let y := (s.ramp r).rate
    let u := s.setRamp r
      (({ s.ramp r with
        rate :=
          if s.rampRuns r = true ∧ 1 ≤ s.ceilingOf r ∧ s.ceilingOf r < y.final then
            { y with
              ceiling := s.ceilingOf r, final := s.ceilingOf r, headway := ceilDiv 36000 (s.ceilingOf r)
              decision := .cap }
          else { y with ceiling := s.ceilingOf r }
        sched :=
          if s.rampRuns r = true ∧ 1 ≤ s.ceilingOf r ∧ s.ceilingOf r < y.final then
            (s.ramp r).sched.handed y.headway (ceilDiv 36000 (s.ceilingOf r))
          else (s.ramp r).sched } : Ramp).reformed s r)
    (s.rampRuns r = true → s.ableLanes r = [] → Stopped r u t)
    ∧ (s.rampRuns r = true → s.ableLanes r ≠ [] → t = u)
    ∧ (s.rampState r = .stopping → EveryLaneOut s r → StoodBy r u t)
    ∧ (s.rampState r = .stopping → ¬ EveryLaneOut s r → t = u)
    ∧ (s.rampState r = .standby ∨ s.rampState r = .closed → t = u)
    ∧ s.ceilingOf r =
        min 3600 (((List.finRange 8).filter fun l => (s.lane l).ramp = some r && (s.lane l).able).map fun l =>
          36000 / ((s.lane l).greenTime + (s.lane l).amberTime + (s.lane l).minRed)).sum
    ∧ (∀ l, s.calls r l = true ↔ s.rampState r = .metering ∧ (s.lane l).ramp = some r ∧ (s.lane l).state = .redReady
        ∧ (s.lane l).redSuspect = false ∧ s.demand l = true)
    ∧ (s.watchedOccupied r = true ↔
        (∃ c, (s.chan c).duty = .queue r ∧ (s.chan c).state = .active ∧ (s.chan c).occupied = true)
        ∨ ∃ c l, (s.chan c).duty = .demand l ∧ (s.chan c).state = .active ∧ (s.lane l).ramp = some r
            ∧ (s.lane l).able = true ∧ (s.chan c).occupied = true)
    ∧ (∀ l, l ∈ s.ableLanes r ↔ (s.lane l).ramp = some r ∧ (s.lane l).able = true)
    ∧ s.rampState r = (s.ramp r).ctl.state
    ∧ (s.rampRuns r = true ↔ s.rampState r = .metering ∨ s.rampState r = .suspended)

/-- LANE CONFIGURE: its six checks in their order; else the binding and the clamped timings are written, in service goes
with a changed binding, an unbound lane's lamp working state is at reset, and the ramps the lane was and is bound to hear of
it (R128, R112, R134). The items of the conflict timer before the last sample are the model's own: notes/assumptions/5.md.
How a ramp hears of a lane, with the model's choices in that (notes/assumptions/15.md, 21.md and 22.md), is RampHearsItsLanes. -/
def Obligations.LaneConfigureWrites : Prop :=
  ∀ (s : State) (l : Fin 8) (b green amber startAmber : Byte) (minRed flush : Half), s.hears = true →
    let run := exec (.laneConfigure (byteOf l) b green amber minRed startAmber flush) s
    let x := s.lane l
    let sent : LaneTimings :=
      { green := green.toNat, amber := amber.toNat, minRed := minRed.toNat, startAmber := startAmber.toNat
        flushGreen := flush.toNat }
    let t : LaneTimings :=
      { green := max 10 (min green.toNat 40), amber := max 10 (min amber.toNat 40)
        minRed := max 15 (min minRed.toNat 300), startAmber := max 30 (min startAmber.toNat 150)
        flushGreen := max 50 (min flush.toNat 1200) }
    (∀ n : Byte, 8 ≤ n.toNat →
      exec (.laneConfigure n b green amber minRed startAmber flush) s = .next (s.answered .badId))
    ∧ (4 ≤ b.toNat → b ≠ 0xFF → run = .next (s.answered .badId))
    ∧ ∀ dest : Option (Fin 4), b = indexByte dest →
      let crowded := ∃ r, dest = some r ∧ x.ramp ≠ some r ∧ 4 ≤ (s.members r).length
      let held := x.ramp ≠ dest ∧ ∃ c, (s.chan c).duty = .demand l ∨ (s.chan c).duty = .passage l
      (x.state ≠ .dark → run = .next (s.answered .wrongState))
      ∧ (x.state = .dark →
        ((∃ r, dest = some r ∧ s.rampState r = .closed) → run = .next (s.answered .undefined))
        ∧ ((∀ r, dest = some r → s.rampState r ≠ .closed) →
          (crowded → run = .next (s.answered .inUse))
          ∧ (¬ crowded → held → run = .next (s.answered .inUse))
          ∧ (¬ crowded → ¬ held → s.locks.timing = true → t ≠ x.timings → run = .next (s.answered .locked))
          ∧ (¬ crowded → ¬ held → s.locks.timing = false ∨ t = x.timings →
              ∃ y : Lane,
                y = { x with
                  ramp := dest, inService := x.inService && decide (x.ramp = dest)
                  greenTime := t.green, amberTime := t.amber, minRed := t.minRed, startAmber := t.startAmber
                  flushGreen := t.flushGreen
                  settle := if dest = none then none else x.settle
                  conflict := if dest = none then 0 else x.conflict
                  conflictMark := if dest = none then .counting else x.conflictMark
                  conflictBefore := if dest = none then 0 else x.conflictBefore
                  markBefore := if dest = none then .counting else x.markBefore
                  recheck := if dest = none then 0 else x.recheck
                  clearRun := if dest = none then 0 else x.clearRun
                  seen := if dest = none then Lamps.dark else x.seen
                  auxMark := if dest = none then false else x.auxMark }
                ∧ run =
                  .next ((((s.setLane l y).refreshOf x.ramp).refreshOf (if dest = x.ramp then none else dest)).answered
                    (takenIf (t = sent))))))

/-- LANE ENABLE puts a bound lane in service and a DARK one of a METERING ramp lights, LANE DISABLE takes a dark or locked
lane out at once and starts a lit one on its stop path as leaving, LANE RESTORE takes a FAULT_LOCKED lane to DARK with its
re-checks at 0; the ramp hears of each; their refusals stand (R115, R129 to R131). How a ramp hears of a lane, with the
model's choices in that (notes/assumptions/15.md, 21.md and 22.md), is RampHearsItsLanes. -/
def Obligations.LaneServiceRequests : Prop :=
  ∀ s : State, s.hears = true →
    (∀ b : Byte, 8 ≤ b.toNat →
      exec (.laneEnable b) s = .next (s.answered .badId) ∧ exec (.laneDisable b) s = .next (s.answered .badId)
      ∧ exec (.laneRestore b) s = .next (s.answered .badId))
    ∧ ∀ l : Fin 8,
      let x := s.lane l
      let heard := fun y : Lane => Host.Outcome.next (((s.setLane l y).refreshOf x.ramp).answered .ok)
      let lit := fun y : Lane =>
        if y.state = .dark ∧ y.able = true ∧ (∃ r, y.ramp = some r ∧ s.rampState r = .metering) then
          y.enter (if s.lamp.present then .proving else .supplyOut)
        else y
      (x.ramp = none → exec (.laneEnable (byteOf l)) s = .next (s.answered .undefined))
      ∧ (∀ r, x.ramp = some r →
          (s.rampState r = .suspended ∨ x.leaving = true →
            exec (.laneEnable (byteOf l)) s = .next (s.answered .wrongState))
          ∧ (s.rampState r ≠ .suspended → x.leaving = false → x.inService = true →
            exec (.laneEnable (byteOf l)) s = .next (s.answered .ok))
          ∧ (s.rampState r ≠ .suspended → x.leaving = false → x.inService = false →
            exec (.laneEnable (byteOf l)) s = heard (lit { x with inService := true })))
      ∧ (x.isOut = true → exec (.laneDisable (byteOf l)) s = heard { x with inService := false })
      ∧ (x.isOut = false → x.leaving = true → exec (.laneDisable (byteOf l)) s = heard x)
      ∧ (x.isOut = false → x.leaving = false →
          exec (.laneDisable (byteOf l)) s = heard ({ x with leaving := true } : Lane).stopPath)
      ∧ (x.isLocked = false → exec (.laneRestore (byteOf l)) s = .next (s.answered .wrongState))
      ∧ (x.isLocked = true →
          exec (.laneRestore (byteOf l)) s = heard (lit { x.enter .dark with rechecks := 0 }))

/-- The timed transitions of a lane: STARTING to RED_MIN, RED_MIN to FLUSH, RESTING or RED_READY by the table of R118, GREEN
to AMBER, AMBER to RED_MIN, FLUSH to DARK, and the two ends of proving, the failed one with OUTPUT_STUCK; the ramp hears of
each (R116 to R118, R120, R124, R126, R135). That the command of an expiry is taken at any count of its timer, and changes
nothing in a state whose timer does not run, is the model's choice: notes/assumptions/4.md. How a ramp hears of a lane, with
the model's choices in that (notes/assumptions/15.md, 21.md and 22.md), is RampHearsItsLanes. -/
def Obligations.LaneTimedTransitions : Prop :=
  ∀ (s : State) (l : Fin 8), s.resetting = false →
    let x := s.lane l
    let moved := fun st : LaneState => Host.Outcome.next ((s.setLane l (x.enter st)).refreshOf x.ramp)
    let flushes := x.leaving = true ∨ ∃ r, x.ramp = some r ∧ s.rampState r = .stopping
    let rests := ∃ r, x.ramp = some r ∧ s.rampState r = .suspended
    (exec (.startAmberExpiry l) s = if x.state = .starting then moved .redMin else .next s)
    ∧ (x.state = .redMin → flushes → exec (.minRedExpiry l) s = moved .flush)
    ∧ (x.state = .redMin → ¬ flushes → rests → exec (.minRedExpiry l) s = moved .resting)
    ∧ (x.state = .redMin → ¬ flushes → ¬ rests → exec (.minRedExpiry l) s = moved .redReady)
    ∧ (x.state ≠ .redMin → exec (.minRedExpiry l) s = .next s)
    ∧ (exec (.greenExpiry l) s = if x.state = .green then moved .amber else .next s)
    ∧ (exec (.amberExpiry l) s = if x.state = .amber then moved .redMin else .next s)
    ∧ (exec (.flushExpiry l) s = if x.state = .flush then moved .dark else .next s)
    ∧ (exec (.provingClear l) s = if x.state = .proving ∧ x.sense = Lamps.dark then moved .starting else .next s)
    ∧ (x.state ≠ .proving → exec (.provingWindowEnd l) s = .next s)
    ∧ (x.state = .proving →
        exec (.provingWindowEnd l) s =
          .next ((({ s with
            faults := s.faults.onset
              { kind := .outputStuck, object := .lane, index := l.val
                detail := x.seen.red.toNat + 2 * x.seen.amber.toNat + 4 * x.seen.green.toNat
                uptime := s.unit.uptime } } : State).setLane l (x.enter (.faultLocked .outputStuck))).refreshOf x.ramp))

/-! ## The Lamp Monitor -/

/-- The lamp checks on a bound lane: the settle runs out; a dark red begins a suspicion that takes the lane off the list; a
re-check that finds it lit ends the suspicion as a transient, one that finds it dark counts and at N locks the lane out with
RED_LAMP_OUT, and one that cannot be taken is held; a dark green or amber is raised once per state (R134, R139 to R142).
That a re-check is held also while the settle runs with LSUP high is the model's reading (notes/assumptions/10.md), and so
is that `none` and `some 0` both stand for a settle timer at 0 (17.md). That SENSE_SETTLE_END and RED_RECHECK are taken at
any count of their timers, and that a re-check that cannot be taken is held at 0, is the model's choice (4.md). So is, in
the list and the marks that the ramp forms anew, that lanes called together join in the order of their numbers (15.md) and
that the armed mark is not set outside METERING (21.md). Where its conditions fail, and in a reset, each check changes
nothing (R139, R140, R142, R163). -/
def Obligations.LampChecks : Prop :=
  (∀ (s : State) (l : Fin 8) (r : Fin 4), s.resetting = false → (s.lane l).ramp = some r →
      let x := s.lane l
      let onset := fun (k : FaultKind) (detail : Nat) => s.faults.onset
        { kind := k, object := .lane, index := l.val, detail := detail, uptime := s.unit.uptime }
      let heard := fun (t : State) (f : FaultRegister) (y : Lane) =>
        t = (({ s with faults := f } : State).setLane l y).setRamp r ((s.ramp r).reformed t r)
      let ready := s.lamp.lsup = true ∧ (x.settle = none ∨ x.settle = some 0)
      exec (.senseSettleEnd l) s = .next (s.setLane l { x with settle := none })
      ∧ (x.state = .redMin ∨ x.state = .redReady → x.redSuspect = false → ready → x.sense.red = false →
          ∃ t, exec (.redSuspectOnset l) s = .next t
            ∧ heard t s.faults { x with redSuspect := true, rechecks := 0, recheck := 50 })
      ∧ (x.redSuspect = true → ¬ ready → exec (.redRecheck l) s = .next (s.setLane l { x with recheck := 0 }))
      ∧ (x.redSuspect = true → ready → x.sense.red = true →
          ∃ t, exec (.redRecheck l) s = .next t
            ∧ heard t (onset .lampTransient x.rechecks)
                { x with redSuspect := false, recheck := 0, transients := min (x.transients + 1) 255 })
      ∧ (x.redSuspect = true → ready → x.sense.red = false → x.rechecks + 1 < s.lamp.recheckN →
          exec (.redRecheck l) s = .next (s.setLane l { x with rechecks := x.rechecks + 1, recheck := 50 }))
      ∧ (x.redSuspect = true → ready → x.sense.red = false → s.lamp.recheckN ≤ x.rechecks + 1 →
          exec (.redRecheck l) s =
            .next ((({ s with faults := onset .redLampOut (x.rechecks + 1) } : State).setLane l
              (({ x with rechecks := x.rechecks + 1 } : Lane).enter (.faultLocked .redLamp))).refreshRamp r))
      ∧ (x.auxMark = false → ready → (x.aspect = .green ∧ x.sense.green = false ∨ x.aspect = .amber ∧ x.sense.amber = false) →
          exec (.auxLampOut l) s =
            .next (({ s with faults := onset .auxLampOut x.aspect.code } : State).setLane l { x with auxMark := true })))
  ∧ ∀ (s : State) (l : Fin 8),
    let x := s.lane l
    let ready := s.lamp.lsup = true ∧ (x.settle = none ∨ x.settle = some 0)
    (s.resetting = true ∨ x.settle = none → exec (.senseSettleEnd l) s = .next s)
    ∧ (s.resetting = true ∨ x.ramp = none ∨ ¬ (x.state = .redMin ∨ x.state = .redReady) ∨ x.redSuspect = true ∨ ¬ ready
        ∨ x.sense.red = true → exec (.redSuspectOnset l) s = .next s)
    ∧ (s.resetting = true ∨ x.redSuspect = false → exec (.redRecheck l) s = .next s)
    ∧ (s.resetting = true ∨ x.ramp = none ∨ x.auxMark = true ∨ ¬ ready
        ∨ ¬ (x.aspect = .green ∧ x.sense.green = false ∨ x.aspect = .amber ∧ x.sense.amber = false) →
        exec (.auxLampOut l) s = .next s)

/-- A conflict that qualifies locks its lane with CONFLICT, takes every other member lane that is not locked dark, sends a
METERING, SUSPENDED or STOPPING ramp to STANDBY with its count, timers and marks cleared, forms the ceiling anew and raises
CONFLICT; a ramp in STANDBY stays, and no conflict qualifies again before its timer has returned to 0, nor on a lane that a
loss of the supply has at the same moment taken through SUPPLY_OUT (R32, R40, R68, R126, R127, R136 to R138). A conflict
reached at a sample is taken whatever its lane shows by then, so after a grant of the same moment it locks the lane in GREEN
(R106, R138). The model's choices: it is reported with the detail of the sample that reached it (notes/assumptions/19.md),
and still taken when LAMP SETTINGS raises the qualify time at the same moment (20.md); as a command it is taken also from a
counting timer whose condition is met (4.md); what ends the moment of a loss (23.md); the items of the conflict timer before
the last sample (5.md); the ceiling falls before the ramp stops (15.md); at the moment of an entry to METERING a headway so
changed sets since-last-grant, and the stop ends that moment (22.md). On an unbound lane, and in a reset, the command
changes nothing (R134, R163). -/
def Obligations.ConflictQualified : Prop :=
  (∀ (s : State) (l : Fin 8) (r : Fin 4), s.resetting = false → (s.lane l).ramp = some r →
      let x := s.lane l
      let f := (s.ramp r).rate
      (x.conflictMark = .taken ∨ x.conflictMark = .dropped ∨ (x.conflictMark = .counting ∧ ¬ x.InConflict) →
        exec (.conflictQualified l) s = .next s)
      ∧ ∀ detail : Nat,
        x.conflictMark = .reached detail
          ∨ (x.conflictMark = .counting ∧ x.InConflict ∧ detail = if x.aspect ≠ .green then 1 else 2) →
        ∃ t, exec (.conflictQualified l) s = .next t
          ∧ t = { s with
              ramps := t.ramps, lanes := t.lanes, channels := t.channels
              faults := s.faults.onset
                { kind := .conflict, object := .lane, index := l.val, detail := detail, uptime := s.unit.uptime } }
          ∧ (∀ i, i ≠ r → t.ramp i = s.ramp i)
          ∧ t.lane l =
              { x.enter (.faultLocked .conflict) with
                conflict := s.lamp.qualify, conflictMark := .taken, conflictBefore := s.lamp.qualify, markBefore := .taken }
          ∧ (∀ i, i ≠ l → t.lane i =
              if (s.lane i).ramp = some r ∧ (s.lane i).isLocked = false then (s.lane i).enter .dark else s.lane i)
          ∧ (s.rampRuns r = true → (t.ramp r).ctl = (s.ramp r).ctl.stopping.standing)
          ∧ (s.rampState r = .stopping → (t.ramp r).ctl = (s.ramp r).ctl.standing)
          ∧ ((s.rampState r).isUp = false → (t.ramp r).ctl = (s.ramp r).ctl)
          ∧ (t.ramp r).queue =
              (if (s.rampState r).isUp = true then
                { (s.ramp r).queue with stored := 0, spill := false, emptyTimer := 0, armed := false }
              else { (s.ramp r).queue with emptyTimer := 0 })
          ∧ (t.ramp r).station = (s.ramp r).station
          ∧ (t.ramp r).rate =
              (if s.rampRuns r = true ∧ 1 ≤ t.ceilingOf r ∧ t.ceilingOf r < f.final then
                { f with
                  ceiling := t.ceilingOf r, final := t.ceilingOf r, headway := ceilDiv 36000 (t.ceilingOf r)
                  decision := .cap }
              else { f with ceiling := t.ceilingOf r })
          ∧ (t.ramp r).sched =
              { (s.ramp r).sched.handed f.headway (t.ramp r).rate.headway with
                waiting := [], fresh := !s.rampRuns r && (s.ramp r).sched.fresh }
          ∧ ∀ c, t.chan c =
              if (s.chan c).duty = .queue r ∧ (s.rampState r).isUp = true then
                { s.chan c with queueTimer := 0, served := false }
              else s.chan c)
  ∧ ∀ (s : State) (l : Fin 8), s.resetting = true ∨ (s.lane l).ramp = none → exec (.conflictQualified l) s = .next s

/-- Loss of the lamp supply takes every bound lane in PROVING through FLUSH to SUPPLY_OUT, on to DARK if it is leaving or
its ramp STOPPING, raises SUPPLY_LOSS with their number, empties the waiting lists and stops no METERING or SUSPENDED ramp,
while a STOPPING one with no lane left on the display enters STANDBY with its count, timers and marks cleared; its return
takes every lane in SUPPLY_OUT to PROVING and raises nothing (R32, R40, R54, R67, R125, R143, R144). The ceilings stand by
the metering invariant. That both commands are taken at any count of the supply timer and record the level of LSUP is the
model's choice: notes/assumptions/4.md. On a lane so taken to SUPPLY_OUT, and on to DARK too, a conflict of the same sample
taken after the loss changes nothing (R138); that R156 does not raise one there is the model's reading, and that a return of
the supply ends that moment is its choice: 23.md. In the lists and marks that the ramps form anew, that lanes called
together join in the order of their numbers (15.md) and that the armed mark is not set outside METERING (21.md) is the
model's choice too. -/
def Obligations.SupplyLossAndReturn : Prop :=
  ∀ s : State, s.resetting = false →
    (s.MeteringSound → s.lamp.present = true →
      ∃ t, exec .supplyLoss s = .next t
        ∧ t = { s with
            ramps := t.ramps, lanes := t.lanes, channels := t.channels
            lamp := { s.lamp with present := false, supplyTimer := 0, lsup := false }
            faults := s.faults.onset
              { kind := .supplyLoss, object := .part, index := 255
                detail := (List.finRange 8).countP fun l =>
                  (s.lane l).ramp.isSome && ((s.lane l).isLit || decide ((s.lane l).state = .proving))
                uptime := s.unit.uptime } }
        ∧ (∀ l, t.lane l =
            if (s.lane l).ramp.isSome = true ∧ ((s.lane l).isLit = true ∨ (s.lane l).state = .proving) then
              if (s.lane l).leaving = true ∨ (∃ r, (s.lane l).ramp = some r ∧ s.rampState r = .stopping) then
                ((s.lane l).enter .supplyOut).enter .dark
              else (s.lane l).enter .supplyOut
            else s.lane l)
        ∧ (∀ r, (t.ramp r).sched = { (s.ramp r).sched with waiting := [] })
        ∧ (∀ r, s.rampState r = .stopping ∧ EveryLaneOut t r → t.ramp r =
            { s.ramp r with
              ctl := (s.ramp r).ctl.standing
              queue := { (s.ramp r).queue with stored := 0, spill := false, emptyTimer := 0, armed := false }
              sched := { (s.ramp r).sched with waiting := [] } })
        ∧ (∀ r, s.rampState r ≠ .stopping ∨ ¬ EveryLaneOut t r → t.ramp r = (s.ramp r).reformed t r)
        ∧ (∀ c r, (s.chan c).duty = .queue r → s.rampState r = .stopping → EveryLaneOut t r →
            t.chan c = { s.chan c with queueTimer := 0, served := false })
        ∧ ∀ c, (∀ r, (s.chan c).duty = .queue r → s.rampState r ≠ .stopping ∨ ¬ EveryLaneOut t r) → t.chan c = s.chan c)
    ∧ (s.lamp.present = false → exec .supplyLoss s = .next s)
    ∧ (s.lamp.present = true → exec .supplyReturn s = .next s)
    ∧ (s.lamp.present = false →
      ∃ t, exec .supplyReturn s = .next t
        ∧ t = { s with
            lanes := t.lanes, lamp := { s.lamp with present := true, supplyTimer := 0, lsup := true } }
        ∧ ∀ l,
            let x : Lane := { s.lane l with
              conflictMark := if (s.lane l).conflictMark = .dropped then .counting else (s.lane l).conflictMark }
            t.lane l = if x.state = .supplyOut then x.enter .proving else x)
    ∧ (∀ l t, s.lamp.present = true →
        (s.lane l).ramp.isSome = true ∧ ((s.lane l).isLit = true ∨ (s.lane l).state = .proving) →
        exec .supplyLoss s = .next t → exec (.conflictQualified l) t = .next t)

/-- LAMP SETTINGS: refused with LOCKED under the TIMING lock, else the qualify time and N are written clamped; the reply gives
them as held after the request in either case (R146). -/
def Obligations.LampSettingsWrites : Prop :=
  ∀ (s : State) (q n : Byte), s.hears = true →
    (s.locks.timing = true →
      exec (.lampSettings q n) s = .next (s.answered .locked [byteOf s.lamp.qualify, byteOf s.lamp.recheckN]))
    ∧ (s.locks.timing = false →
      exec (.lampSettings q n) s =
        .next (({ s with lamp := { s.lamp with
          qualify := max 5 (min q.toNat 50), recheckN := max 1 (min n.toNat 7) } } : State).answered
            (takenIf ((5 ≤ q.toNat ∧ q.toNat ≤ 50) ∧ 1 ≤ n.toNat ∧ n.toNat ≤ 7))
            [byteOf (max 5 (min q.toNat 50)), byteOf (max 1 (min n.toNat 7))]))

/-- Changed levels of the input pins. A detector input starts the qualification of an ACTIVE channel afresh; the sense
inputs of a bound lane clear its conflict timer, let it run on, or count the present sample on top of what it was before
it, restart its clear run and add to its seen set; a change of LSUP restarts the supply timer and a rise settles the lit
lanes anew; nothing else moves (R4, R5, R134 to R136, R143, R144). A level sent that is the level held changes nothing.
That, that a change is the present sample's, and that the seen set keeps an input which the change shows low while the
sample counts as clear, is the model's choice (notes/assumptions/5.md), and so are that a change of the sense inputs ends
the moment at which an entry to SUPPLY_OUT dropped the lane's conflict (23.md) and the 0 at which a stopped qualification
timer stands (13.md). -/
def Obligations.InputLevels : Prop :=
  ∀ s : State,
    (∀ (c : Fin 32) (high : Bool), (s.chan c).input ≠ high →
      exec (.detectorInputChange c high) s =
        .next (s.setChan c { s.chan c with
          input := high
          qualification := if (s.chan c).state = .active then 0 else (s.chan c).qualification }))
    ∧ (∀ (l : Fin 8) (red amber green : Bool),
        let x := s.lane l
        let levels : Lamps := { red := red, amber := amber, green := green }
        let y : Lane := { x with sense := levels }
        (s.resetting = true ∨ x.ramp = none →
          exec (.lampSenseChange l red amber green) s = .next (s.setLane l y))
        ∧ (s.resetting = false → x.ramp ≠ none → x.sense ≠ levels →
          exec (.lampSenseChange l red amber green) s = .next (s.setLane l
            { y with
              conflict := if ¬ y.InConflict then 0 else if x.conflict ≠ 0 then x.conflict
                else if x.markBefore = .taken then x.conflictBefore else min s.lamp.qualify (x.conflictBefore + 1)
              conflictMark := if ¬ y.InConflict then .counting else if x.conflict ≠ 0 then x.conflictMark
                else if x.markBefore = .taken then .taken
                else if s.lamp.qualify ≤ x.conflictBefore + 1 then .reached (if x.aspect ≠ .green then 1 else 2)
                else .counting
              clearRun := if x.state ≠ .proving then x.clearRun
                else if levels ≠ Lamps.dark ∨ x.provingLeft = 300 then 0 else 1
              seen := if x.state = .proving then
                  { red := x.seen.red || red, amber := x.seen.amber || amber, green := x.seen.green || green }
                else x.seen })))
    ∧ (∀ high : Bool, s.lamp.lsup ≠ high →
        ∃ t, exec (.lampSupplyInputChange high) s = .next t
          ∧ t = { s with lanes := t.lanes, lamp := { s.lamp with lsup := high, supplyTimer := 0 } }
          ∧ ∀ l, t.lane l =
              if high = true ∧ (s.lane l).ramp.isSome = true ∧ (s.lane l).isLit = true then
                { s.lane l with settle := some 30 }
              else s.lane l)
    ∧ (∀ c, exec (.detectorInputChange c (s.chan c).input) s = .next s)
    ∧ (∀ l, exec (.lampSenseChange l (s.lane l).sense.red (s.lane l).sense.amber (s.lane l).sense.green) s = .next s)
    ∧ exec (.lampSupplyInputChange s.lamp.lsup) s = .next s

/-! ## What every step keeps -/

/-- The Fault Register, the supervision state and a pending restart stay sound through every step (R150, R157, R160, R162,
R166). -/
def Obligations.RegistersStaySound : Prop :=
  ∀ s t : State, step s = .next t →
    (s.faults.Sound → t.faults.Sound) ∧ (s.SupervisionSound → t.SupervisionSound) ∧ (s.RestartSound → t.RestartSound)

/-- The Plan Table, the bindings, the queue part and the optional parts of every ramp stay sound through every step: plans in
range and a plan that a ramp names DEFINED (R50, R53, R54, R72); the bindings of R3; the stored count at most the capacity
and 0 outside METERING and STOPPING, spill ACTIVE only in METERING, the queue position at most the capacity (R32, R33); an
override and a hold-off only in METERING, a suspension remaining exactly in SUSPENDED (sections 5.1 and 5.2). -/
def Obligations.PlansBindingsAndRampsStaySound : Prop :=
  ∀ s t : State, step s = .next t →
    (s.PlansSound → t.PlansSound) ∧ (s.BindingsSound → t.BindingsSound)
    ∧ (s.QueuesSound → t.QueuesSound) ∧ (s.OptionsSound → t.OptionsSound)

/-- The display and the waiting lists stay sound through every step: only served lanes of a ramp in operation are off DARK, no
lane is lit without the lamp supply, and a list holds exactly the lanes that may be granted, each once (R67, R101 to R103,
R118, R122, R123, R125, R145). -/
def Obligations.DisplayAndListsStaySound : Prop :=
  ∀ s t : State, step s = .next t →
    (s.DisplaySound → t.DisplaySound) ∧ (s.WaitingSound → t.WaitingSound)

/-- Metering stays sound through every step: a ramp in METERING or SUSPENDED may meter, and its final rate lies between 94 and
what its able lanes can serve, with its headway, and at the moment of a start or a resume since-last-grant is the headway
handed over last, so that the ramp is ready in either order (R68, R82, R83, R92, R94, R107; what that moment is:
notes/assumptions/22.md). -/
def Obligations.MeteringStaysSound : Prop :=
  ∀ s t : State, s.PlansSound → s.BindingsSound → s.MeteringSound → step s = .next t → t.MeteringSound

/-- The state after reset meets every invariant. -/
def Obligations.ResetIsSound : Prop :=
  State.reset.faults.Sound ∧ State.reset.SupervisionSound ∧ State.reset.RestartSound ∧ State.reset.PlansSound
  ∧ State.reset.BindingsSound ∧ State.reset.QueuesSound ∧ State.reset.OptionsSound ∧ State.reset.DisplaySound
  ∧ State.reset.WaitingSound ∧ State.reset.MeteringSound

/-- A lane's green comes on only from its red after the min red has been served: from RED_READY, or from RED_MIN by
MIN_RED_EXPIRY, and with no command waiting only once the state timer has counted the min red down to 0; it enters RED_READY
only so too, so its min red has been served there; its red comes on only from its amber, so red never directly follows green
(R118, R119, R121). That MIN_RED_EXPIRY sent as a command is taken at any count of the timer, as the sender's word that the
min red has been served, is the model's choice: notes/assumptions/4.md. -/
def Obligations.GreenComesOnlyAfterRed : Prop :=
  (∀ (s t : State) (l : Fin 8), step s = .next t →
    ((t.lane l).aspect = .green → (s.lane l).aspect ≠ .green →
      (s.lane l).state = .redReady ∨ (s.lane l).state = .redMin)
    ∧ ((t.lane l).aspect = .green → (s.lane l).state = .redMin → s.pending = [] → (s.lane l).timer = 0)
    ∧ ((t.lane l).state = .redReady → (s.lane l).state ≠ .redReady →
      (s.lane l).state = .redMin ∧ (s.pending = [] → (s.lane l).timer = 0))
    ∧ ((t.lane l).aspect = .red → (s.lane l).aspect = .red ∨ (s.lane l).aspect = .amber))
  ∧ ∀ (c : Instr) (s t : State) (l : Fin 8), exec c s = .next t →
    ((t.lane l).aspect = .green → (s.lane l).state = .redMin → c = .minRedExpiry l)
    ∧ ((t.lane l).state = .redReady → (s.lane l).state ≠ .redReady → c = .minRedExpiry l)
end

