-- ==== Sys2Proof/Laws/State.lean ====
section
/-! SUPPORT. The access laws of `State`: what each update leaves in each field, and reading a record after writing it. -/

namespace Sys2Proof.Machine

/-! ## Records read by number -/

@[simp] theorem State.channels_get (s : State) (c : Fin 32) : s.channels[c] = s.chan c := rfl
@[simp] theorem State.plans_get (s : State) (p : Fin 16) : s.plans[p] = s.plan p := rfl
@[simp] theorem State.ramps_get (s : State) (r : Fin 4) : s.ramps[r] = s.ramp r := rfl
@[simp] theorem State.lanes_get (s : State) (l : Fin 8) : s.lanes[l] = s.lane l := rfl

theorem State.chan_congr {s t : State} (h : t.channels = s.channels) : t.chan = s.chan := by
  funext c; simp only [State.chan, h]
theorem State.plan_congr {s t : State} (h : t.plans = s.plans) : t.plan = s.plan := by
  funext c; simp only [State.plan, h]
theorem State.ramp_congr {s t : State} (h : t.ramps = s.ramps) : t.ramp = s.ramp := by
  funext c; simp only [State.ramp, h]
theorem State.lane_congr {s t : State} (h : t.lanes = s.lanes) : t.lane = s.lane := by
  funext c; simp only [State.lane, h]

/-! ## Writing one record -/

@[simp] theorem State.setChan_plans (s : State) (c : Fin 32) (x : Channel) : (s.setChan c x).plans = s.plans := rfl
@[simp] theorem State.setChan_ramps (s : State) (c : Fin 32) (x : Channel) : (s.setChan c x).ramps = s.ramps := rfl
@[simp] theorem State.setChan_lanes (s : State) (c : Fin 32) (x : Channel) : (s.setChan c x).lanes = s.lanes := rfl
@[simp] theorem State.setChan_lamp (s : State) (c : Fin 32) (x : Channel) : (s.setChan c x).lamp = s.lamp := rfl
@[simp] theorem State.setChan_faults (s : State) (c : Fin 32) (x : Channel) : (s.setChan c x).faults = s.faults := rfl
@[simp] theorem State.setChan_sup (s : State) (c : Fin 32) (x : Channel) : (s.setChan c x).sup = s.sup := rfl
@[simp] theorem State.setChan_locks (s : State) (c : Fin 32) (x : Channel) : (s.setChan c x).locks = s.locks := rfl
@[simp] theorem State.setChan_unit (s : State) (c : Fin 32) (x : Channel) : (s.setChan c x).unit = s.unit := rfl
@[simp] theorem State.setChan_link (s : State) (c : Fin 32) (x : Channel) : (s.setChan c x).link = s.link := rfl
@[simp] theorem State.setChan_tickPhase (s : State) (c : Fin 32) (x : Channel) : (s.setChan c x).tickPhase = s.tickPhase := rfl
@[simp] theorem State.setChan_choices (s : State) (c : Fin 32) (x : Channel) : (s.setChan c x).choices = s.choices := rfl
@[simp] theorem State.setChan_pending (s : State) (c : Fin 32) (x : Channel) : (s.setChan c x).pending = s.pending := rfl
theorem State.setChan_chan (s : State) (c i : Fin 32) (x : Channel) :
    (s.setChan c x).chan i = if i = c then x else s.chan i := by
  simp only [State.setChan, State.chan, Fin.getElem_fin, Vector.getElem_set, Fin.ext_iff, eq_comm]
@[simp] theorem State.setChan_chan_self (s : State) (c : Fin 32) (x : Channel) : (s.setChan c x).chan c = x := by
  simp [State.setChan_chan]
theorem State.setChan_chan_ne (s : State) (c i : Fin 32) (x : Channel) (h : i ≠ c) :
    (s.setChan c x).chan i = s.chan i := by
  simp [State.setChan_chan, h]
@[simp] theorem State.setChan_plan (s : State) (c : Fin 32) (x : Channel) : (s.setChan c x).plan = s.plan := rfl
@[simp] theorem State.setChan_ramp (s : State) (c : Fin 32) (x : Channel) : (s.setChan c x).ramp = s.ramp := rfl
@[simp] theorem State.setChan_lane (s : State) (c : Fin 32) (x : Channel) : (s.setChan c x).lane = s.lane := rfl

@[simp] theorem State.setPlan_channels (s : State) (p : Fin 16) (x : Plan) : (s.setPlan p x).channels = s.channels := rfl
@[simp] theorem State.setPlan_ramps (s : State) (p : Fin 16) (x : Plan) : (s.setPlan p x).ramps = s.ramps := rfl
@[simp] theorem State.setPlan_lanes (s : State) (p : Fin 16) (x : Plan) : (s.setPlan p x).lanes = s.lanes := rfl
@[simp] theorem State.setPlan_lamp (s : State) (p : Fin 16) (x : Plan) : (s.setPlan p x).lamp = s.lamp := rfl
@[simp] theorem State.setPlan_faults (s : State) (p : Fin 16) (x : Plan) : (s.setPlan p x).faults = s.faults := rfl
@[simp] theorem State.setPlan_sup (s : State) (p : Fin 16) (x : Plan) : (s.setPlan p x).sup = s.sup := rfl
@[simp] theorem State.setPlan_locks (s : State) (p : Fin 16) (x : Plan) : (s.setPlan p x).locks = s.locks := rfl
@[simp] theorem State.setPlan_unit (s : State) (p : Fin 16) (x : Plan) : (s.setPlan p x).unit = s.unit := rfl
@[simp] theorem State.setPlan_link (s : State) (p : Fin 16) (x : Plan) : (s.setPlan p x).link = s.link := rfl
@[simp] theorem State.setPlan_tickPhase (s : State) (p : Fin 16) (x : Plan) : (s.setPlan p x).tickPhase = s.tickPhase := rfl
@[simp] theorem State.setPlan_choices (s : State) (p : Fin 16) (x : Plan) : (s.setPlan p x).choices = s.choices := rfl
@[simp] theorem State.setPlan_pending (s : State) (p : Fin 16) (x : Plan) : (s.setPlan p x).pending = s.pending := rfl
@[simp] theorem State.setPlan_chan (s : State) (p : Fin 16) (x : Plan) : (s.setPlan p x).chan = s.chan := rfl
theorem State.setPlan_plan (s : State) (p i : Fin 16) (x : Plan) :
    (s.setPlan p x).plan i = if i = p then x else s.plan i := by
  simp only [State.setPlan, State.plan, Fin.getElem_fin, Vector.getElem_set, Fin.ext_iff, eq_comm]
@[simp] theorem State.setPlan_plan_self (s : State) (p : Fin 16) (x : Plan) : (s.setPlan p x).plan p = x := by
  simp [State.setPlan_plan]
theorem State.setPlan_plan_ne (s : State) (p i : Fin 16) (x : Plan) (h : i ≠ p) :
    (s.setPlan p x).plan i = s.plan i := by
  simp [State.setPlan_plan, h]
@[simp] theorem State.setPlan_ramp (s : State) (p : Fin 16) (x : Plan) : (s.setPlan p x).ramp = s.ramp := rfl
@[simp] theorem State.setPlan_lane (s : State) (p : Fin 16) (x : Plan) : (s.setPlan p x).lane = s.lane := rfl

@[simp] theorem State.setRamp_channels (s : State) (r : Fin 4) (x : Ramp) : (s.setRamp r x).channels = s.channels := rfl
@[simp] theorem State.setRamp_plans (s : State) (r : Fin 4) (x : Ramp) : (s.setRamp r x).plans = s.plans := rfl
@[simp] theorem State.setRamp_lanes (s : State) (r : Fin 4) (x : Ramp) : (s.setRamp r x).lanes = s.lanes := rfl
@[simp] theorem State.setRamp_lamp (s : State) (r : Fin 4) (x : Ramp) : (s.setRamp r x).lamp = s.lamp := rfl
@[simp] theorem State.setRamp_faults (s : State) (r : Fin 4) (x : Ramp) : (s.setRamp r x).faults = s.faults := rfl
@[simp] theorem State.setRamp_sup (s : State) (r : Fin 4) (x : Ramp) : (s.setRamp r x).sup = s.sup := rfl
@[simp] theorem State.setRamp_locks (s : State) (r : Fin 4) (x : Ramp) : (s.setRamp r x).locks = s.locks := rfl
@[simp] theorem State.setRamp_unit (s : State) (r : Fin 4) (x : Ramp) : (s.setRamp r x).unit = s.unit := rfl
@[simp] theorem State.setRamp_link (s : State) (r : Fin 4) (x : Ramp) : (s.setRamp r x).link = s.link := rfl
@[simp] theorem State.setRamp_tickPhase (s : State) (r : Fin 4) (x : Ramp) : (s.setRamp r x).tickPhase = s.tickPhase := rfl
@[simp] theorem State.setRamp_choices (s : State) (r : Fin 4) (x : Ramp) : (s.setRamp r x).choices = s.choices := rfl
@[simp] theorem State.setRamp_pending (s : State) (r : Fin 4) (x : Ramp) : (s.setRamp r x).pending = s.pending := rfl
@[simp] theorem State.setRamp_chan (s : State) (r : Fin 4) (x : Ramp) : (s.setRamp r x).chan = s.chan := rfl
@[simp] theorem State.setRamp_plan (s : State) (r : Fin 4) (x : Ramp) : (s.setRamp r x).plan = s.plan := rfl
theorem State.setRamp_ramp (s : State) (r i : Fin 4) (x : Ramp) :
    (s.setRamp r x).ramp i = if i = r then x else s.ramp i := by
  simp only [State.setRamp, State.ramp, Fin.getElem_fin, Vector.getElem_set, Fin.ext_iff, eq_comm]
@[simp] theorem State.setRamp_ramp_self (s : State) (r : Fin 4) (x : Ramp) : (s.setRamp r x).ramp r = x := by
  simp [State.setRamp_ramp]
theorem State.setRamp_ramp_ne (s : State) (r i : Fin 4) (x : Ramp) (h : i ≠ r) :
    (s.setRamp r x).ramp i = s.ramp i := by
  simp [State.setRamp_ramp, h]
@[simp] theorem State.setRamp_lane (s : State) (r : Fin 4) (x : Ramp) : (s.setRamp r x).lane = s.lane := rfl

@[simp] theorem State.setLane_channels (s : State) (l : Fin 8) (x : Lane) : (s.setLane l x).channels = s.channels := rfl
@[simp] theorem State.setLane_plans (s : State) (l : Fin 8) (x : Lane) : (s.setLane l x).plans = s.plans := rfl
@[simp] theorem State.setLane_ramps (s : State) (l : Fin 8) (x : Lane) : (s.setLane l x).ramps = s.ramps := rfl
@[simp] theorem State.setLane_lamp (s : State) (l : Fin 8) (x : Lane) : (s.setLane l x).lamp = s.lamp := rfl
@[simp] theorem State.setLane_faults (s : State) (l : Fin 8) (x : Lane) : (s.setLane l x).faults = s.faults := rfl
@[simp] theorem State.setLane_sup (s : State) (l : Fin 8) (x : Lane) : (s.setLane l x).sup = s.sup := rfl
@[simp] theorem State.setLane_locks (s : State) (l : Fin 8) (x : Lane) : (s.setLane l x).locks = s.locks := rfl
@[simp] theorem State.setLane_unit (s : State) (l : Fin 8) (x : Lane) : (s.setLane l x).unit = s.unit := rfl
@[simp] theorem State.setLane_link (s : State) (l : Fin 8) (x : Lane) : (s.setLane l x).link = s.link := rfl
@[simp] theorem State.setLane_tickPhase (s : State) (l : Fin 8) (x : Lane) : (s.setLane l x).tickPhase = s.tickPhase := rfl
@[simp] theorem State.setLane_choices (s : State) (l : Fin 8) (x : Lane) : (s.setLane l x).choices = s.choices := rfl
@[simp] theorem State.setLane_pending (s : State) (l : Fin 8) (x : Lane) : (s.setLane l x).pending = s.pending := rfl
@[simp] theorem State.setLane_chan (s : State) (l : Fin 8) (x : Lane) : (s.setLane l x).chan = s.chan := rfl
@[simp] theorem State.setLane_plan (s : State) (l : Fin 8) (x : Lane) : (s.setLane l x).plan = s.plan := rfl
@[simp] theorem State.setLane_ramp (s : State) (l : Fin 8) (x : Lane) : (s.setLane l x).ramp = s.ramp := rfl
theorem State.setLane_lane (s : State) (l i : Fin 8) (x : Lane) :
    (s.setLane l x).lane i = if i = l then x else s.lane i := by
  simp only [State.setLane, State.lane, Fin.getElem_fin, Vector.getElem_set, Fin.ext_iff, eq_comm]
@[simp] theorem State.setLane_lane_self (s : State) (l : Fin 8) (x : Lane) : (s.setLane l x).lane l = x := by
  simp [State.setLane_lane]
theorem State.setLane_lane_ne (s : State) (l i : Fin 8) (x : Lane) (h : i ≠ l) :
    (s.setLane l x).lane i = s.lane i := by
  simp [State.setLane_lane, h]

/-! ## Changing every record of a kind -/

@[simp] theorem State.mapChans_plans (s : State) (f : Fin 32 → Channel → Channel) : (s.mapChans f).plans = s.plans := by
  simp only [State.mapChans]
@[simp] theorem State.mapChans_ramps (s : State) (f : Fin 32 → Channel → Channel) : (s.mapChans f).ramps = s.ramps := by
  simp only [State.mapChans]
@[simp] theorem State.mapChans_lanes (s : State) (f : Fin 32 → Channel → Channel) : (s.mapChans f).lanes = s.lanes := by
  simp only [State.mapChans]
@[simp] theorem State.mapChans_lamp (s : State) (f : Fin 32 → Channel → Channel) : (s.mapChans f).lamp = s.lamp := by
  simp only [State.mapChans]
@[simp] theorem State.mapChans_faults (s : State) (f : Fin 32 → Channel → Channel) : (s.mapChans f).faults = s.faults := by
  simp only [State.mapChans]
@[simp] theorem State.mapChans_sup (s : State) (f : Fin 32 → Channel → Channel) : (s.mapChans f).sup = s.sup := by
  simp only [State.mapChans]
@[simp] theorem State.mapChans_locks (s : State) (f : Fin 32 → Channel → Channel) : (s.mapChans f).locks = s.locks := by
  simp only [State.mapChans]
@[simp] theorem State.mapChans_unit (s : State) (f : Fin 32 → Channel → Channel) : (s.mapChans f).unit = s.unit := by
  simp only [State.mapChans]
@[simp] theorem State.mapChans_link (s : State) (f : Fin 32 → Channel → Channel) : (s.mapChans f).link = s.link := by
  simp only [State.mapChans]
@[simp] theorem State.mapChans_tickPhase (s : State) (f : Fin 32 → Channel → Channel) : (s.mapChans f).tickPhase = s.tickPhase := by
  simp only [State.mapChans]
@[simp] theorem State.mapChans_choices (s : State) (f : Fin 32 → Channel → Channel) : (s.mapChans f).choices = s.choices := by
  simp only [State.mapChans]
@[simp] theorem State.mapChans_pending (s : State) (f : Fin 32 → Channel → Channel) : (s.mapChans f).pending = s.pending := by
  simp only [State.mapChans]
@[simp] theorem State.mapChans_chan (s : State) (f : Fin 32 → Channel → Channel) (i : Fin 32) :
    (s.mapChans f).chan i = f i (s.chan i) := by
  simp [State.mapChans, State.chan]
@[simp] theorem State.mapChans_plan (s : State) (f : Fin 32 → Channel → Channel) : (s.mapChans f).plan = s.plan :=
  State.plan_congr (by simp only [State.mapChans])
@[simp] theorem State.mapChans_ramp (s : State) (f : Fin 32 → Channel → Channel) : (s.mapChans f).ramp = s.ramp :=
  State.ramp_congr (by simp only [State.mapChans])
@[simp] theorem State.mapChans_lane (s : State) (f : Fin 32 → Channel → Channel) : (s.mapChans f).lane = s.lane :=
  State.lane_congr (by simp only [State.mapChans])

@[simp] theorem State.mapRamps_channels (s : State) (f : Fin 4 → Ramp → Ramp) : (s.mapRamps f).channels = s.channels := by
  simp only [State.mapRamps]
@[simp] theorem State.mapRamps_plans (s : State) (f : Fin 4 → Ramp → Ramp) : (s.mapRamps f).plans = s.plans := by
  simp only [State.mapRamps]
@[simp] theorem State.mapRamps_lanes (s : State) (f : Fin 4 → Ramp → Ramp) : (s.mapRamps f).lanes = s.lanes := by
  simp only [State.mapRamps]
@[simp] theorem State.mapRamps_lamp (s : State) (f : Fin 4 → Ramp → Ramp) : (s.mapRamps f).lamp = s.lamp := by
  simp only [State.mapRamps]
@[simp] theorem State.mapRamps_faults (s : State) (f : Fin 4 → Ramp → Ramp) : (s.mapRamps f).faults = s.faults := by
  simp only [State.mapRamps]
@[simp] theorem State.mapRamps_sup (s : State) (f : Fin 4 → Ramp → Ramp) : (s.mapRamps f).sup = s.sup := by
  simp only [State.mapRamps]
@[simp] theorem State.mapRamps_locks (s : State) (f : Fin 4 → Ramp → Ramp) : (s.mapRamps f).locks = s.locks := by
  simp only [State.mapRamps]
@[simp] theorem State.mapRamps_unit (s : State) (f : Fin 4 → Ramp → Ramp) : (s.mapRamps f).unit = s.unit := by
  simp only [State.mapRamps]
@[simp] theorem State.mapRamps_link (s : State) (f : Fin 4 → Ramp → Ramp) : (s.mapRamps f).link = s.link := by
  simp only [State.mapRamps]
@[simp] theorem State.mapRamps_tickPhase (s : State) (f : Fin 4 → Ramp → Ramp) : (s.mapRamps f).tickPhase = s.tickPhase := by
  simp only [State.mapRamps]
@[simp] theorem State.mapRamps_choices (s : State) (f : Fin 4 → Ramp → Ramp) : (s.mapRamps f).choices = s.choices := by
  simp only [State.mapRamps]
@[simp] theorem State.mapRamps_pending (s : State) (f : Fin 4 → Ramp → Ramp) : (s.mapRamps f).pending = s.pending := by
  simp only [State.mapRamps]
@[simp] theorem State.mapRamps_chan (s : State) (f : Fin 4 → Ramp → Ramp) : (s.mapRamps f).chan = s.chan :=
  State.chan_congr (by simp only [State.mapRamps])
@[simp] theorem State.mapRamps_plan (s : State) (f : Fin 4 → Ramp → Ramp) : (s.mapRamps f).plan = s.plan :=
  State.plan_congr (by simp only [State.mapRamps])
@[simp] theorem State.mapRamps_ramp (s : State) (f : Fin 4 → Ramp → Ramp) (i : Fin 4) :
    (s.mapRamps f).ramp i = f i (s.ramp i) := by
  simp [State.mapRamps, State.ramp]
@[simp] theorem State.mapRamps_lane (s : State) (f : Fin 4 → Ramp → Ramp) : (s.mapRamps f).lane = s.lane :=
  State.lane_congr (by simp only [State.mapRamps])

@[simp] theorem State.mapLanes_channels (s : State) (f : Fin 8 → Lane → Lane) : (s.mapLanes f).channels = s.channels := by
  simp only [State.mapLanes]
@[simp] theorem State.mapLanes_plans (s : State) (f : Fin 8 → Lane → Lane) : (s.mapLanes f).plans = s.plans := by
  simp only [State.mapLanes]
@[simp] theorem State.mapLanes_ramps (s : State) (f : Fin 8 → Lane → Lane) : (s.mapLanes f).ramps = s.ramps := by
  simp only [State.mapLanes]
@[simp] theorem State.mapLanes_lamp (s : State) (f : Fin 8 → Lane → Lane) : (s.mapLanes f).lamp = s.lamp := by
  simp only [State.mapLanes]
@[simp] theorem State.mapLanes_faults (s : State) (f : Fin 8 → Lane → Lane) : (s.mapLanes f).faults = s.faults := by
  simp only [State.mapLanes]
@[simp] theorem State.mapLanes_sup (s : State) (f : Fin 8 → Lane → Lane) : (s.mapLanes f).sup = s.sup := by
  simp only [State.mapLanes]
@[simp] theorem State.mapLanes_locks (s : State) (f : Fin 8 → Lane → Lane) : (s.mapLanes f).locks = s.locks := by
  simp only [State.mapLanes]
@[simp] theorem State.mapLanes_unit (s : State) (f : Fin 8 → Lane → Lane) : (s.mapLanes f).unit = s.unit := by
  simp only [State.mapLanes]
@[simp] theorem State.mapLanes_link (s : State) (f : Fin 8 → Lane → Lane) : (s.mapLanes f).link = s.link := by
  simp only [State.mapLanes]
@[simp] theorem State.mapLanes_tickPhase (s : State) (f : Fin 8 → Lane → Lane) : (s.mapLanes f).tickPhase = s.tickPhase := by
  simp only [State.mapLanes]
@[simp] theorem State.mapLanes_choices (s : State) (f : Fin 8 → Lane → Lane) : (s.mapLanes f).choices = s.choices := by
  simp only [State.mapLanes]
@[simp] theorem State.mapLanes_pending (s : State) (f : Fin 8 → Lane → Lane) : (s.mapLanes f).pending = s.pending := by
  simp only [State.mapLanes]
@[simp] theorem State.mapLanes_chan (s : State) (f : Fin 8 → Lane → Lane) : (s.mapLanes f).chan = s.chan :=
  State.chan_congr (by simp only [State.mapLanes])
@[simp] theorem State.mapLanes_plan (s : State) (f : Fin 8 → Lane → Lane) : (s.mapLanes f).plan = s.plan :=
  State.plan_congr (by simp only [State.mapLanes])
@[simp] theorem State.mapLanes_ramp (s : State) (f : Fin 8 → Lane → Lane) : (s.mapLanes f).ramp = s.ramp :=
  State.ramp_congr (by simp only [State.mapLanes])
@[simp] theorem State.mapLanes_lane (s : State) (f : Fin 8 → Lane → Lane) (i : Fin 8) :
    (s.mapLanes f).lane i = f i (s.lane i) := by
  simp [State.mapLanes, State.lane]

/-! ## Changing one record is writing it -/

@[simp] theorem State.modChan_eq (s : State) (c : Fin 32) (f : Channel → Channel) :
    s.modChan c f = s.setChan c (f (s.chan c)) := rfl
@[simp] theorem State.modRamp_eq (s : State) (r : Fin 4) (f : Ramp → Ramp) :
    s.modRamp r f = s.setRamp r (f (s.ramp r)) := rfl
@[simp] theorem State.modLane_eq (s : State) (l : Fin 8) (f : Lane → Lane) :
    s.modLane l f = s.setLane l (f (s.lane l)) := rfl
@[simp] theorem State.modCtl_eq (s : State) (r : Fin 4) (f : RampControl → RampControl) :
    s.modCtl r f = s.setRamp r { s.ramp r with ctl := f (s.ramp r).ctl } := rfl
@[simp] theorem State.modQueue_eq (s : State) (r : Fin 4) (f : Queue → Queue) :
    s.modQueue r f = s.setRamp r { s.ramp r with queue := f (s.ramp r).queue } := rfl
@[simp] theorem State.modSched_eq (s : State) (r : Fin 4) (f : Scheduler → Scheduler) :
    s.modSched r f = s.setRamp r { s.ramp r with sched := f (s.ramp r).sched } := rfl

/-! ## Writing a field that holds no records leaves the records -/

@[simp] theorem State.with_lamp_chan (s : State) (x : LampUnit) : ({ s with lamp := x } : State).chan = s.chan := rfl
@[simp] theorem State.with_lamp_plan (s : State) (x : LampUnit) : ({ s with lamp := x } : State).plan = s.plan := rfl
@[simp] theorem State.with_lamp_ramp (s : State) (x : LampUnit) : ({ s with lamp := x } : State).ramp = s.ramp := rfl
@[simp] theorem State.with_lamp_lane (s : State) (x : LampUnit) : ({ s with lamp := x } : State).lane = s.lane := rfl
@[simp] theorem State.with_faults_chan (s : State) (x : FaultRegister) : ({ s with faults := x } : State).chan = s.chan := rfl
@[simp] theorem State.with_faults_plan (s : State) (x : FaultRegister) : ({ s with faults := x } : State).plan = s.plan := rfl
@[simp] theorem State.with_faults_ramp (s : State) (x : FaultRegister) : ({ s with faults := x } : State).ramp = s.ramp := rfl
@[simp] theorem State.with_faults_lane (s : State) (x : FaultRegister) : ({ s with faults := x } : State).lane = s.lane := rfl
@[simp] theorem State.with_sup_chan (s : State) (x : Supervision) : ({ s with sup := x } : State).chan = s.chan := rfl
@[simp] theorem State.with_sup_plan (s : State) (x : Supervision) : ({ s with sup := x } : State).plan = s.plan := rfl
@[simp] theorem State.with_sup_ramp (s : State) (x : Supervision) : ({ s with sup := x } : State).ramp = s.ramp := rfl
@[simp] theorem State.with_sup_lane (s : State) (x : Supervision) : ({ s with sup := x } : State).lane = s.lane := rfl
@[simp] theorem State.with_locks_chan (s : State) (x : Locks) : ({ s with locks := x } : State).chan = s.chan := rfl
@[simp] theorem State.with_locks_plan (s : State) (x : Locks) : ({ s with locks := x } : State).plan = s.plan := rfl
@[simp] theorem State.with_locks_ramp (s : State) (x : Locks) : ({ s with locks := x } : State).ramp = s.ramp := rfl
@[simp] theorem State.with_locks_lane (s : State) (x : Locks) : ({ s with locks := x } : State).lane = s.lane := rfl
@[simp] theorem State.with_unit_chan (s : State) (x : ResetUnit) : ({ s with unit := x } : State).chan = s.chan := rfl
@[simp] theorem State.with_unit_plan (s : State) (x : ResetUnit) : ({ s with unit := x } : State).plan = s.plan := rfl
@[simp] theorem State.with_unit_ramp (s : State) (x : ResetUnit) : ({ s with unit := x } : State).ramp = s.ramp := rfl
@[simp] theorem State.with_unit_lane (s : State) (x : ResetUnit) : ({ s with unit := x } : State).lane = s.lane := rfl
@[simp] theorem State.with_link_chan (s : State) (x : Link) : ({ s with link := x } : State).chan = s.chan := rfl
@[simp] theorem State.with_link_plan (s : State) (x : Link) : ({ s with link := x } : State).plan = s.plan := rfl
@[simp] theorem State.with_link_ramp (s : State) (x : Link) : ({ s with link := x } : State).ramp = s.ramp := rfl
@[simp] theorem State.with_link_lane (s : State) (x : Link) : ({ s with link := x } : State).lane = s.lane := rfl
@[simp] theorem State.with_tickPhase_chan (s : State) (x : Nat) : ({ s with tickPhase := x } : State).chan = s.chan := rfl
@[simp] theorem State.with_tickPhase_plan (s : State) (x : Nat) : ({ s with tickPhase := x } : State).plan = s.plan := rfl
@[simp] theorem State.with_tickPhase_ramp (s : State) (x : Nat) : ({ s with tickPhase := x } : State).ramp = s.ramp := rfl
@[simp] theorem State.with_tickPhase_lane (s : State) (x : Nat) : ({ s with tickPhase := x } : State).lane = s.lane := rfl
@[simp] theorem State.with_choices_chan (s : State) (x : Nat) : ({ s with choices := x } : State).chan = s.chan := rfl
@[simp] theorem State.with_choices_plan (s : State) (x : Nat) : ({ s with choices := x } : State).plan = s.plan := rfl
@[simp] theorem State.with_choices_ramp (s : State) (x : Nat) : ({ s with choices := x } : State).ramp = s.ramp := rfl
@[simp] theorem State.with_choices_lane (s : State) (x : Nat) : ({ s with choices := x } : State).lane = s.lane := rfl
@[simp] theorem State.with_pending_chan (s : State) (x : List Instr) : ({ s with pending := x } : State).chan = s.chan := rfl
@[simp] theorem State.with_pending_plan (s : State) (x : List Instr) : ({ s with pending := x } : State).plan = s.plan := rfl
@[simp] theorem State.with_pending_ramp (s : State) (x : List Instr) : ({ s with pending := x } : State).ramp = s.ramp := rfl
@[simp] theorem State.with_pending_lane (s : State) (x : List Instr) : ({ s with pending := x } : State).lane = s.lane := rfl

/-- Two states with equal fields are equal. -/
theorem State.ext_fields {s t : State} (h1 : s.channels = t.channels) (h2 : s.plans = t.plans)
    (h3 : s.ramps = t.ramps) (h4 : s.lanes = t.lanes) (h5 : s.lamp = t.lamp) (h6 : s.faults = t.faults)
    (h7 : s.sup = t.sup) (h8 : s.locks = t.locks) (h9 : s.unit = t.unit) (h10 : s.link = t.link)
    (h11 : s.tickPhase = t.tickPhase) (h12 : s.choices = t.choices) (h13 : s.pending = t.pending) : s = t := by
  cases s; cases t; simp_all

end Sys2Proof.Machine
end

