-- ==== Sys2Proof/Laws/Ops.lean ====
section
/-! SUPPORT. The laws of the shared operations: what each derived condition reads, and everything each operation can
do. -/

namespace Sys2Proof.Machine

/-! ## How a command is taken -/

/-- A request that is heard leaves what its service leaves, with the result and the reply in the link. -/
theorem request_heard (armed : Bool) (serve : State → Served) {s : State} (h : s.hears = true) :
    request armed serve s = .next ((serve s).finish armed) := by simp [request, h]

/-- A request that cannot be received is a frame missed. -/
theorem request_unheard (armed : Bool) (serve : State → Served) {s : State} (h : s.hears = false) :
    request armed serve s = .next s.missFrame := by simp [request, h]

/-- A frame missed in a reset leaves the part waiting for CS_N to rise. -/
theorem missFrame_resetting {s : State} (h : s.resetting = true) :
    s.missFrame = { s with link := { s.link with phase := .waitRise } } := by simp [State.missFrame, h]

/-- Outside a reset a frame missed changes nothing. -/
theorem missFrame_running {s : State} (h : s.resetting = false) : s.missFrame = s := by simp [State.missFrame, h]

/-- A frame missed changes at most the reception state. -/
theorem missFrame_eq (s : State) : s.missFrame = { s with link := s.missFrame.link } := by
  unfold State.missFrame; split <;> rfl

/-- A request always completes. -/
theorem request_next (armed : Bool) (serve : State → Served) (s : State) : ∃ t, request armed serve s = .next t :=
  ⟨_, rfl⟩

/-- An event outside a reset leaves what its meaning leaves. -/
theorem event_running (f : State → State) {s : State} (h : s.resetting = false) : event f s = .next (f s) := by
  simp [event, h]

/-- No event is taken in a reset. -/
theorem event_resetting (f : State → State) {s : State} (h : s.resetting = true) : event f s = .next s := by
  simp [event, h]

/-- An event always completes. -/
theorem event_next (f : State → State) (s : State) : ∃ t, event f s = .next t := ⟨_, rfl⟩

theorem finish_answered (v : Served) : v.finish false = v.state.answered v.result v.reply := rfl

@[simp] theorem accept_state (s : State) (reply : List Byte) : (accept s reply).state = s := rfl
@[simp] theorem accept_result (s : State) (reply : List Byte) : (accept s reply).result = .ok := rfl
@[simp] theorem accept_reply (s : State) (reply : List Byte) : (accept s reply).reply = reply := rfl
@[simp] theorem refuse_state (s : State) (result : Result) (reply : List Byte) :
    (refuse s result reply).state = s := rfl
@[simp] theorem refuse_result (s : State) (result : Result) (reply : List Byte) :
    (refuse s result reply).result = result := rfl
@[simp] theorem refuse_reply (s : State) (result : Result) (reply : List Byte) :
    (refuse s result reply).reply = reply := rfl
@[simp] theorem acceptClamped_state (s : State) (changed : Bool) : (acceptClamped s changed).state = s := rfl
@[simp] theorem acceptClamped_result (s : State) (changed : Bool) :
    (acceptClamped s changed).result = clampedIf changed := rfl
@[simp] theorem acceptClamped_reply (s : State) (changed : Bool) : (acceptClamped s changed).reply = [] := rfl

/-! ## Index operands -/

@[simp] theorem channelOf_byteOf (c : Fin 32) : channelOf? (byteOf c.val) = some c := by revert c; decide
@[simp] theorem planOf_byteOf (p : Fin 16) : planOf? (byteOf p.val) = some p := by revert p; decide
@[simp] theorem rampOf_byteOf (r : Fin 4) : rampOf? (byteOf r.val) = some r := by revert r; decide
@[simp] theorem laneOf_byteOf (l : Fin 8) : laneOf? (byteOf l.val) = some l := by revert l; decide

theorem channelOf_bad {b : Byte} (h : 32 ≤ b.toNat) : channelOf? b = none := dif_neg (by omega)
theorem planOf_bad {b : Byte} (h : 16 ≤ b.toNat) : planOf? b = none := dif_neg (by omega)
theorem rampOf_bad {b : Byte} (h : 4 ≤ b.toNat) : rampOf? b = none := dif_neg (by omega)
theorem laneOf_bad {b : Byte} (h : 8 ≤ b.toNat) : laneOf? b = none := dif_neg (by omega)

/-! ## What the derived conditions read -/

theorem rampState_congr {s t : State} (h : t.ramps = s.ramps) : t.rampState = s.rampState := by
  funext r; simp only [State.rampState, State.ramp_congr h]

theorem boundRamp_congr {s t : State} (hl : t.lane = s.lane) (hc : t.chan = s.chan) : t.boundRamp = s.boundRamp := by
  funext c; simp only [State.boundRamp, hc]
  cases (s.chan c).duty <;> simp only [State.rampOfDuty, hl]

theorem demand_congr {s t : State} (hc : t.chan = s.chan) : t.demand = s.demand := by
  funext l; simp only [State.demand, State.someActive, hc]

theorem members_congr {s t : State} (hl : t.lane = s.lane) : t.members = s.members := by
  funext r; simp only [State.members, hl]

theorem ableLanes_congr {s t : State} (hl : t.lane = s.lane) : t.ableLanes = s.ableLanes := by
  funext r; simp only [State.ableLanes, members_congr hl, hl]

theorem ceilingOf_congr {s t : State} (hl : t.lane = s.lane) : t.ceilingOf = s.ceilingOf := by
  funext r; simp only [State.ceilingOf, ableLanes_congr hl, hl]

theorem allOut_congr {s t : State} (hl : t.lane = s.lane) : t.allOut = s.allOut := by
  funext r; simp only [State.allOut, members_congr hl, hl]

theorem calls_congr {s t : State} (hr : t.rampState = s.rampState) (hl : t.lane = s.lane) (hc : t.chan = s.chan) :
    t.calls = s.calls := by
  funext r l; simp only [State.calls, hr, hl, demand_congr hc]

theorem watches_congr {s t : State} (hl : t.lane = s.lane) (hc : t.chan = s.chan) : t.watches = s.watches := by
  funext r c; simp only [State.watches, hc]
  cases (s.chan c).duty <;> simp only [hl]

theorem watchedOccupied_congr {s t : State} (hl : t.lane = s.lane) (hc : t.chan = s.chan) :
    t.watchedOccupied = s.watchedOccupied := by
  funext r; simp only [State.watchedOccupied, watches_congr hl hc, hc]

theorem emptyRuns_congr {s t : State} (hr : t.rampState = s.rampState) (hl : t.lane = s.lane)
    (hc : t.chan = s.chan) : t.emptyRuns = s.emptyRuns := by
  funext r
  simp only [State.emptyRuns, hr, watches_congr hl hc, watchedOccupied_congr hl hc, hc]

/-- Writing a ramp with its state kept keeps the state of every ramp. -/
theorem setRamp_rampState {s : State} {r : Fin 4} {x : Ramp} (h : x.ctl.state = s.rampState r) :
    (s.setRamp r x).rampState = s.rampState := by
  funext i; simp only [State.rampState, State.setRamp_ramp]
  split
  · next e => rw [h, State.rampState, e]
  · rfl

/-! ## Onsets -/

@[simp] theorem raise_channels (k o i d) (s : State) : (raise k o i d s).channels = s.channels := rfl
@[simp] theorem raise_plans (k o i d) (s : State) : (raise k o i d s).plans = s.plans := rfl
@[simp] theorem raise_ramps (k o i d) (s : State) : (raise k o i d s).ramps = s.ramps := rfl
@[simp] theorem raise_lanes (k o i d) (s : State) : (raise k o i d s).lanes = s.lanes := rfl
@[simp] theorem raise_lamp (k o i d) (s : State) : (raise k o i d s).lamp = s.lamp := rfl
@[simp] theorem raise_sup (k o i d) (s : State) : (raise k o i d s).sup = s.sup := rfl
@[simp] theorem raise_locks (k o i d) (s : State) : (raise k o i d s).locks = s.locks := rfl
@[simp] theorem raise_unit (k o i d) (s : State) : (raise k o i d s).unit = s.unit := rfl
@[simp] theorem raise_link (k o i d) (s : State) : (raise k o i d s).link = s.link := rfl
@[simp] theorem raise_tickPhase (k o i d) (s : State) : (raise k o i d s).tickPhase = s.tickPhase := rfl
@[simp] theorem raise_choices (k o i d) (s : State) : (raise k o i d s).choices = s.choices := rfl
@[simp] theorem raise_pending (k o i d) (s : State) : (raise k o i d s).pending = s.pending := rfl
@[simp] theorem raise_chan (k o i d) (s : State) : (raise k o i d s).chan = s.chan := rfl
@[simp] theorem raise_plan (k o i d) (s : State) : (raise k o i d s).plan = s.plan := rfl
@[simp] theorem raise_ramp (k o i d) (s : State) : (raise k o i d s).ramp = s.ramp := rfl
@[simp] theorem raise_lane (k o i d) (s : State) : (raise k o i d s).lane = s.lane := rfl
@[simp] theorem raise_rampState (k o i d) (s : State) : (raise k o i d s).rampState = s.rampState := rfl
@[simp] theorem raise_faults (k o i d) (s : State) :
    (raise k o i d s).faults = s.faults.onset
      { kind := k, object := o, index := i, detail := d, uptime := s.unit.uptime } := rfl

/-! ## A lane enters a state -/

@[simp] theorem Lane.enter_state (st : LaneState) (l : Lane) : (l.enter st).state = st := rfl
@[simp] theorem Lane.enter_ramp (st : LaneState) (l : Lane) : (l.enter st).ramp = l.ramp := rfl
@[simp] theorem Lane.enter_timings (st : LaneState) (l : Lane) : (l.enter st).timings = l.timings := rfl
@[simp] theorem Lane.enter_sense (st : LaneState) (l : Lane) : (l.enter st).sense = l.sense := rfl
@[simp] theorem Lane.enter_timer (st : LaneState) (l : Lane) : (l.enter st).timer = l.duration st := rfl
@[simp] theorem Lane.enter_releases (st : LaneState) (l : Lane) : (l.enter st).releases = l.releases := rfl
@[simp] theorem Lane.enter_rechecks (st : LaneState) (l : Lane) : (l.enter st).rechecks = l.rechecks := rfl
@[simp] theorem Lane.enter_transients (st : LaneState) (l : Lane) : (l.enter st).transients = l.transients := rfl

/-! ## Conflict -/

theorem Lane.conflictMet_iff (l : Lane) : l.conflictMet = true ↔ l.InConflict := by
  cases h : l.ramp <;> simp [Lane.conflictMet, Lane.InConflict, h, and_assoc]

@[simp] theorem Lane.countConflict_conflict (q n : Nat) (l : Lane) : (l.countConflict q n).conflict = min q (n + 1) := rfl
@[simp] theorem Lane.countConflict_state (q n : Nat) (l : Lane) : (l.countConflict q n).state = l.state := rfl
@[simp] theorem Lane.countConflict_ramp (q n : Nat) (l : Lane) : (l.countConflict q n).ramp = l.ramp := rfl

/-- The conflicts that can be taken on a lane: the one reached, or the one its levels show while the timer counts. -/
theorem Lane.conflictTaken_iff (l : Lane) (d : Nat) :
    l.conflictTaken? = some d ↔
      l.conflictMark = .reached d
      ∨ l.conflictMark = .counting ∧ l.InConflict ∧ d = if l.aspect ≠ .green then 1 else 2 := by
  rw [← Lane.conflictMet_iff, Lane.conflictTaken?, Lane.conflictDetail]
  cases l.conflictMark with
  | counting => by_cases h : l.conflictMet = true <;> simp [h, eq_comm]
  | reached _ => simp
  | taken => simp
  | dropped => simp

/-- After an entry to SUPPLY_OUT, and on to DARK too, no conflict of that moment can be taken (R138). -/
@[simp] theorem Lane.enter_supplyOut_conflictTaken (l : Lane) : (l.enter .supplyOut).conflictTaken? = none := rfl
@[simp] theorem Lane.enter_supplyOut_dark_conflictTaken (l : Lane) :
    ((l.enter .supplyOut).enter .dark).conflictTaken? = none := rfl
@[simp] theorem Lane.conflictAnew_state (l : Lane) : l.conflictAnew.state = l.state := rfl
@[simp] theorem Lane.conflictAnew_ramp (l : Lane) : l.conflictAnew.ramp = l.ramp := rfl
@[simp] theorem Lane.conflictAnew_able (l : Lane) : l.conflictAnew.able = l.able := rfl

/-! ## The able property -/

/-- An entry to any state but FAULT_LOCKED from a state that is not FAULT_LOCKED keeps the able property. -/
theorem Lane.enter_able {st : LaneState} {l : Lane} (hl : l.isLocked = false) (hs : (l.enter st).isLocked = false) :
    (l.enter st).able = l.able := by
  cases h : st <;> simp_all [Lane.able, Lane.enter, Lane.isLocked]
  cases l.leaving <;> simp

/-- The stop path never makes a lane FAULT_LOCKED and never takes one out. -/
theorem Lane.stopPath_isLocked (l : Lane) : l.stopPath.isLocked = l.isLocked := by
  unfold Lane.stopPath; split <;> simp_all [Lane.isLocked]

@[simp] theorem Lane.stopPath_ramp (l : Lane) : l.stopPath.ramp = l.ramp := by
  unfold Lane.stopPath; split <;> rfl

@[simp] theorem Lane.stopPath_timings (l : Lane) : l.stopPath.timings = l.timings := by
  unfold Lane.stopPath; split <;> rfl

theorem Lane.stopPath_able (l : Lane) : l.stopPath.able = l.able := by
  unfold Lane.stopPath
  split <;> first | rfl | (apply Lane.enter_able <;> simp_all [Lane.isLocked, Lane.enter])

/-! ## The waiting list, the empty timer and the armed mark -/

/-- `refreshCalls` changes its ramp alone, and there the waiting list, the empty timer and the armed mark. -/
theorem refreshCalls_eq (s : State) (r : Fin 4) :
    s.refreshCalls r = s.setRamp r
      { s.ramp r with
        sched := { (s.ramp r).sched with waiting := s.newList r }
        queue := (s.ramp r).queue.watch (s.rampState r = .metering) (s.emptyRuns r) (s.watchedOccupied r) } := rfl

@[simp] theorem refreshCalls_rampState (s : State) (r : Fin 4) : (s.refreshCalls r).rampState = s.rampState :=
  setRamp_rampState rfl

@[simp] theorem refreshCalls_chan (s : State) (r : Fin 4) : (s.refreshCalls r).chan = s.chan := rfl
@[simp] theorem refreshCalls_lane (s : State) (r : Fin 4) : (s.refreshCalls r).lane = s.lane := rfl
@[simp] theorem refreshCalls_plan (s : State) (r : Fin 4) : (s.refreshCalls r).plan = s.plan := rfl

@[simp] theorem refreshCalls_calls (s : State) (r : Fin 4) : (s.refreshCalls r).calls = s.calls :=
  calls_congr (refreshCalls_rampState s r) rfl rfl

/-- The list formed anew holds exactly the lanes that meet the conditions. -/
theorem mem_newList (s : State) (r : Fin 4) (l : Fin 8) : l ∈ s.newList r ↔ s.calls r l = true := by
  simp only [State.newList, List.mem_append, List.mem_filter, List.mem_finRange, true_and, Bool.and_eq_true,
    Bool.not_eq_true', List.contains_eq_mem, decide_eq_false_iff_not]
  tauto

/-- The list formed anew from a list without repeats has none. -/
theorem newList_nodup {s : State} {r : Fin 4} (h : (s.ramp r).sched.waiting.Nodup) : (s.newList r).Nodup := by
  refine (h.filter _).append ((List.nodup_finRange 8).filter _) ?_
  intro l h1 h2
  simp_all [List.mem_filter]

/-- A list that already holds exactly the lanes that meet the conditions is formed as it stands. -/
theorem newList_self {s : State} {r : Fin 4}
    (h : ∀ l, l ∈ (s.ramp r).sched.waiting ↔ s.calls r l = true) : s.newList r = (s.ramp r).sched.waiting := by
  have h1 : ((s.ramp r).sched.waiting).filter (s.calls r) = (s.ramp r).sched.waiting :=
    List.filter_eq_self.2 fun l hl => (h l).1 hl
  have h2 : (List.finRange 8).filter (fun l => s.calls r l && !(s.ramp r).sched.waiting.contains l) = [] :=
    List.filter_eq_nil_iff.2 fun l _ => by
      have := h l
      simp only [Bool.and_eq_true, Bool.not_eq_true', List.contains_eq_mem, decide_eq_false_iff_not, not_and,
        not_not]
      exact this.2
  simp only [State.newList, h1, h2, List.append_nil]

/-! ## The rate part handed over -/

@[simp] theorem handRate_ctl (q : Rate) (x : Ramp) : (x.handRate q).ctl = x.ctl := rfl
@[simp] theorem handRate_station (q : Rate) (x : Ramp) : (x.handRate q).station = x.station := rfl
@[simp] theorem handRate_queue (q : Rate) (x : Ramp) : (x.handRate q).queue = x.queue := rfl
@[simp] theorem handRate_rate (q : Rate) (x : Ramp) : (x.handRate q).rate = q := rfl

/-- What the handing over of a rate part does to the Scheduler state (R100, R107). -/
theorem handRate_sched (q : Rate) (x : Ramp) :
    (x.handRate q).sched = x.sched.handed x.rate.headway q.headway := by
  simp only [Ramp.handRate, Scheduler.handed, Bool.and_eq_true, decide_eq_true_eq]

@[simp] theorem handRate_waiting (q : Rate) (x : Ramp) : (x.handRate q).sched.waiting = x.sched.waiting := by
  unfold Ramp.handRate; dsimp only; split <;> rfl

@[simp] theorem handRate_fresh (q : Rate) (x : Ramp) : (x.handRate q).sched.fresh = x.sched.fresh := by
  unfold Ramp.handRate; dsimp only; split <;> rfl

/-- A rate part with the headway held changes the rate part alone. -/
theorem handRate_same {q : Rate} {x : Ramp} (h : q.headway = x.rate.headway) : x.handRate q = { x with rate := q } := by
  simp [Ramp.handRate, h]

@[simp] theorem handed_waiting (old new : Nat) (x : Scheduler) : (x.handed old new).waiting = x.waiting := by
  unfold Scheduler.handed; split <;> rfl

@[simp] theorem handed_fresh (old new : Nat) (x : Scheduler) : (x.handed old new).fresh = x.fresh := by
  unfold Scheduler.handed; split <;> rfl

@[simp] theorem handed_same (old : Nat) (x : Scheduler) : x.handed old old = x := by simp [Scheduler.handed]

/-- A Scheduler state that is not fresh takes a headway as it stands. -/
theorem handed_stale {old new : Nat} {x : Scheduler} (h : x.fresh = false) : x.handed old new = x := by
  simp [Scheduler.handed, h]

/-- A ceiling that cuts no rate keeps the headway. -/
theorem newCeiling_headway {running : Bool} {c : Nat} {x : Rate} (h : x.final ≤ c) :
    (x.newCeiling running c).headway = x.headway := by
  simp [Rate.newCeiling, Nat.not_lt.2 h]

/-! ## The ceiling -/

@[simp] theorem newCeiling_ceiling (running : Bool) (c : Nat) (x : Rate) : (x.newCeiling running c).ceiling = c := by
  unfold Rate.newCeiling Rate.setFinal; dsimp only; split <;> rfl

@[simp] theorem formCeiling_rampState (s : State) (r : Fin 4) : (s.formCeiling r).rampState = s.rampState :=
  setRamp_rampState rfl

/-! ## Stopping -/

/-- The entry to STOPPING, ramp by ramp. -/
theorem enterStopping_ramp (s : State) (r i : Fin 4) :
    (s.enterStopping r).ramp i =
      if i = r then
        { s.ramp r with
          ctl := { (s.ramp r).ctl with
            state := .stopping, override := none, suspension := none
            holdOff := 0, holdOffRun := 0, onRun := 0, offRun := 0 }
          queue := { (s.ramp r).queue with spill := false, emptyTimer := 0 }
          sched := { (s.ramp r).sched with waiting := [], fresh := false } }
      else s.ramp i := by
  simp only [State.enterStopping, State.mapMembers, State.mapLanes_ramp, State.modRamp_eq, State.setRamp_ramp]

/-- The entry to STOPPING, lane by lane: the member lanes take their stop paths (R123). -/
theorem enterStopping_lane (s : State) (r : Fin 4) (l : Fin 8) :
    (s.enterStopping r).lane l = if (s.lane l).ramp = some r then (s.lane l).stopPath else s.lane l := by
  simp only [State.enterStopping, State.mapMembers, State.mapLanes_lane, State.modRamp_eq, State.setRamp_lane]
  rfl

@[simp] theorem enterStopping_chan (s : State) (r : Fin 4) : (s.enterStopping r).chan = s.chan := by
  simp [State.enterStopping, State.mapMembers]

/-- The entry to STANDBY, ramp by ramp. -/
theorem enterStandby_ramp (s : State) (r i : Fin 4) :
    (s.enterStandby r).ramp i =
      if i = r then
        { s.ramp r with
          ctl := { (s.ramp r).ctl with
            state := .standby, active := (s.ramp r).ctl.pending.or (s.ramp r).ctl.active, pending := none
            onRun := 0, offRun := 0 }
          queue := { (s.ramp r).queue with stored := 0, spill := false, emptyTimer := 0, armed := false } }
      else s.ramp i := by
  simp only [State.enterStandby, State.clearQueueTimers, State.mapChans_ramp, State.modRamp_eq, State.setRamp_ramp]

@[simp] theorem enterStandby_lane (s : State) (r : Fin 4) : (s.enterStandby r).lane = s.lane := by
  simp [State.enterStandby, State.clearQueueTimers]

/-- The entry to STANDBY, channel by channel: the queue timers and served marks of its QUEUE channels go (R40). -/
theorem enterStandby_chan (s : State) (r : Fin 4) (c : Fin 32) :
    (s.enterStandby r).chan c =
      if (s.chan c).duty = .queue r then { s.chan c with queueTimer := 0, served := false } else s.chan c := by
  simp only [State.enterStandby, State.clearQueueTimers, State.mapChans_chan, State.modRamp_eq, State.setRamp_chan]
  rfl

end Sys2Proof.Machine
end

