-- ==== Sys2Proof/Laws/Clock.lean ====
section
/-! SUPPORT. The laws of 10 ms of the part's time, of what is due, of a ramp's stop, and of the bytes of a two-byte
operand. -/

namespace Sys2Proof

/-- A two-byte operand is read back from its two bytes. -/
theorem halfOf_bytes (w : Half) : halfOf (hiByte w) (loByte w) = w := by
  unfold halfOf hiByte loByte
  apply BitVec.eq_of_getLsbD_eq; intro i hi
  simp only [BitVec.getLsbD_append, BitVec.getLsbD_extractLsb']
  split
  · simp; omega
  · have h1 : i - 8 < 8 := by omega
    have h2 : 8 + (i - 8) = i := by omega
    simp [h1, h2]

namespace Machine

/-! ## 10 ms -/

theorem advance_chan {s : State} (h : s.resetting = false) (c : Fin 32) :
    s.advance.chan c = s.sampleChannel (decide (s.tickPhase = 9)) c (s.chan c) := by
  simp [State.advance, h, State.chan]

theorem advance_ramp {s : State} (h : s.resetting = false) (r : Fin 4) :
    s.advance.ramp r = s.sampleRamp (decide (s.tickPhase = 9)) r (s.ramp r) := by
  simp [State.advance, h, State.ramp]

theorem advance_lane {s : State} (h : s.resetting = false) (l : Fin 8) :
    s.advance.lane l = (s.lane l).sample s.lamp.qualify (decide (s.tickPhase = 9)) := by
  simp [State.advance, h, State.lane]

/-- No time passes for the part in a reset. -/
theorem advance_resetting {s : State} (h : s.resetting = true) : s.advance = s := by simp [State.advance, h]

/-- Time changes no plan, no fault, no lock, no frame and no queue. -/
theorem advance_eq (s : State) :
    s.advance =
      { s with
        channels := s.advance.channels, ramps := s.advance.ramps, lanes := s.advance.lanes
        lamp := s.advance.lamp, sup := s.advance.sup, unit := s.advance.unit, tickPhase := s.advance.tickPhase } := by
  unfold State.advance; split <;> rfl

/-- 10 ms leave the state of every ramp. -/
theorem advance_rampState (s : State) : s.advance.rampState = s.rampState := by
  cases h : s.resetting
  · funext r
    simp only [State.rampState, advance_ramp h, State.sampleRamp, RampControl.sample, RampControl.sampleHoldOff]
    repeat' split
    all_goals rfl
  · rw [advance_resetting h]

/-- 10 ms leave the state of every lane. -/
theorem advance_laneState (s : State) (l : Fin 8) : (s.advance.lane l).state = (s.lane l).state := by
  cases h : s.resetting
  · rw [advance_lane h]
    simp only [Lane.sample, Lane.sampleProving, Lane.sampleConflict]
    repeat' split
    all_goals rfl
  · rw [advance_resetting h]

/-- Everything a sample does to the conflict timer (R136). -/
theorem Lane.sampleConflict_eq (q : Nat) (x : Lane) :
    ∃ n mark, x.sampleConflict q =
        { x with conflict := n, conflictMark := mark, conflictBefore := x.conflict, markBefore := x.conflictMark }
      ∧ (x.conflictMet = false → n = 0 ∧ mark = .counting)
      ∧ (x.conflictMet = true → x.conflictMark = .taken → n = q ∧ mark = .taken)
      ∧ (x.conflictMet = true → x.conflictMark ≠ .taken → n = min q (x.conflict + 1)
          ∧ mark = if q ≤ x.conflict + 1 then .reached x.conflictDetail else .counting) := by
  by_cases h : x.conflictMet = true
  · by_cases hm : x.conflictMark = .taken
    · exact ⟨q, .taken, by simp [Lane.sampleConflict, h, hm], by simp [h, hm]⟩
    · exact ⟨_, _, by simp only [Lane.sampleConflict, h, hm, Lane.countConflict]; rfl, by simp [h, hm]; rfl⟩
  · exact ⟨0, .counting, by simp [Lane.sampleConflict, h], by simp [h]⟩

/-- Everything a sample does to the proving state (R114, R116, R135). -/
theorem Lane.sampleProving_eq (x : Lane) :
    x.sampleProving =
      { x with
        provingLeft := if x.state = .proving then x.provingLeft - 1 else x.provingLeft
        timer := if x.state = .proving then (x.provingLeft - 1 + 9) / 10 else x.timer
        clearRun :=
          if x.state = .proving then (if x.sense = .dark then min 100 (x.clearRun + 1) else 0) else x.clearRun
        seen :=
          if x.state = .proving then
            { red := x.seen.red || x.sense.red, amber := x.seen.amber || x.sense.amber
              green := x.seen.green || x.sense.green }
          else x.seen } := by
  by_cases h : x.state = .proving <;> simp [Lane.sampleProving, h, ceilDiv]

/-! ## What is due -/

theorem mem_dueIf {condition : Bool} {i e : Instr} : e ∈ dueIf condition i ↔ condition = true ∧ e = i := by
  cases condition <;> simp [dueIf]

/-- Outside a reset the events due are those of the part, of its channels, of its ramps and of its lanes. -/
theorem mem_due {s : State} (h : s.resetting = false) (e : Instr) :
    e ∈ s.due ↔
      e ∈ s.dueOfPart ∨ (∃ c, e ∈ s.dueOfChannel c) ∨ (∃ r, e ∈ s.dueOfRamp r) ∨ ∃ l, e ∈ s.dueOfLane l := by
  simp [State.due, h, List.mem_flatMap]

/-- Nothing is due in a reset. -/
theorem due_resetting {s : State} (h : s.resetting = true) : s.due = [] := by simp [State.due, h]

/-! ## The stop of a ramp -/

/-- Every lane bound to the ramp is out: DARK or FAULT_LOCKED. -/
theorem allOut_iff (s : State) (r : Fin 4) : s.allOut r = true ↔ EveryLaneOut s r := by
  simp only [State.allOut, EveryLaneOut, State.members, List.all_eq_true, List.mem_filter, List.mem_finRange, true_and,
    decide_eq_true_eq]

/-- Everything the entry to STANDBY does. -/
theorem enterStandby_stoodBy (s : State) (r : Fin 4) : StoodBy r s (s.enterStandby r) := by
  refine ⟨?_, ?_, ?_, ?_⟩
  · simp only [State.enterStandby, State.clearQueueTimers, State.mapChans, State.modRamp, State.setRamp]
  · intro i hi; rw [enterStandby_ramp, if_neg hi]
  · rw [enterStandby_ramp, if_pos rfl]; rfl
  · intro c; rw [enterStandby_chan]

/-- Everything the entry to STOPPING does. -/
theorem enterStopping_entered (s : State) (r : Fin 4) : EnteredStopping r s (s.enterStopping r) := by
  refine ⟨?_, ?_, ?_, ?_⟩
  · simp only [State.enterStopping, State.mapMembers, State.mapLanes, State.modRamp, State.setRamp]
  · intro i hi; rw [enterStopping_ramp, if_neg hi]
  · rw [enterStopping_ramp, if_pos rfl]; rfl
  · intro c; rw [enterStopping_lane]

/-- Everything the stop of a METERING or SUSPENDED ramp does. -/
theorem stopRamp_stopped {s : State} {r : Fin 4} (h : s.rampRuns r = true) : Stopped r s (s.stopRamp r) := by
  refine ⟨s.enterStopping r, enterStopping_entered s r, ?_, ?_⟩
  all_goals
    intro h1
    rw [← allOut_iff] at h1
    have hs : (s.enterStopping r).rampState r = .stopping := by
      simp only [State.rampState, enterStopping_ramp, if_true]
    simp only [State.rampRuns, Bool.or_eq_true, decide_eq_true_eq] at h
    simp only [State.stopRamp, State.standbyIfOut, hs, h1, Bool.or_eq_true, decide_eq_true_eq, h, if_true]
  · exact enterStandby_stoodBy _ _
  · simp

/-- Any other ramp is not moved by a stop. -/
theorem stopRamp_still {s : State} {r : Fin 4} (h : s.rampRuns r = false) : s.stopRamp r = s := by
  simp only [State.rampRuns, Bool.or_eq_false_iff, decide_eq_false_iff_not] at h
  simp [State.stopRamp, h]

/-- A lane rewritten with its binding kept is heard by its own ramp alone. -/
theorem rewriteLane_bound {s : State} {l : Fin 8} {x : Lane} (h : x.ramp = (s.lane l).ramp) :
    s.rewriteLane l x = (s.setLane l x).refreshOf (s.lane l).ramp := by
  simp [State.rewriteLane, h, State.refreshOf]

end Machine

end Sys2Proof
end

