-- ==== Sys2Proof/Laws/Closes.lean ====
section
/-! SUPPORT. The laws of the steps of an interval close (R63): what each step leaves of the channels, of its ramp, of the
other ramps and of the rest of the state. -/

namespace Sys2Proof.Machine

/-! ## Step 1: the latch -/

/-- The state after step 1: the interval elapsed is 0 and the channels of the ramp have latched. -/
def State.afterLatch (s : State) (r : Fin 4) : State := (s.modCtl r fun c => { c with elapsed := 0 }).latchChannels r

theorem afterLatch_chan (s : State) (r : Fin 4) (c : Fin 32) :
    (s.afterLatch r).chan c =
      if s.boundRamp c = some r then (s.chan c).latch (s.ramp r).ctl.interval else s.chan c := by
  simp only [State.afterLatch, State.latchChannels, State.mapChans_chan, State.modCtl, State.modRamp,
    State.setRamp_ramp, if_true]
  rfl

theorem afterLatch_ramp (s : State) (r i : Fin 4) :
    (s.afterLatch r).ramp i =
      if i = r then { s.ramp r with ctl := { (s.ramp r).ctl with elapsed := 0 } } else s.ramp i := by
  simp only [State.afterLatch, State.latchChannels, State.mapChans_ramp, State.modCtl, State.modRamp,
    State.setRamp_ramp]

/-- Step 1 changes channels and ramps alone. -/
theorem afterLatch_eq (s : State) (r : Fin 4) :
    s.afterLatch r = { s with channels := (s.afterLatch r).channels, ramps := (s.afterLatch r).ramps } := by
  simp only [State.afterLatch, State.latchChannels, State.mapChans, State.modCtl, State.modRamp, State.setRamp]

/-! ## Step 2: the station -/

@[simp] theorem formStation_chan (s : State) (r : Fin 4) : (s.formStation r).chan = s.chan := by
  simp only [State.formStation]; split <;> rfl

theorem formStation_ramp (s : State) (r i : Fin 4) :
    (s.formStation r).ramp i =
      if i = r then
        { s.ramp r with
          station := (s.ramp r).station.formed (s.stationChannels r).length
            ((s.stationChannels r).map fun c => (s.chan c).latchedOcc).sum
            ((s.stationChannels r).map fun c => (s.chan c).latchedCount).sum (s.ramp r).ctl.interval }
      else s.ramp i := by
  simp only [State.formStation]; split <;> simp [State.modRamp, State.setRamp_ramp]

/-- Step 2 changes ramps and the Fault Register alone. -/
theorem formStation_eq (s : State) (r : Fin 4) :
    s.formStation r = { s with ramps := (s.formStation r).ramps, faults := (s.formStation r).faults } := by
  simp only [State.formStation, State.modRamp, State.setRamp, raise]; split <;> rfl

/-! ## Step 3: the pending plan -/

theorem applyPending_ramp (s : State) (r i : Fin 4) :
    (s.applyPending r).ramp i =
      if i = r ∧ (s.rampState r = .metering ∨ s.rampState r = .suspended ∨ s.rampState r = .stopping) then
        { s.ramp r with
          ctl := { (s.ramp r).ctl with
            active := (s.ramp r).ctl.pending.or (s.ramp r).ctl.active, pending := none } }
      else s.ramp i := by
  unfold State.applyPending
  cases h : s.rampState r <;> simp [State.modCtl, State.modRamp, State.setRamp_ramp]

/-- Step 3 changes ramps alone. -/
theorem applyPending_eq (s : State) (r : Fin 4) :
    s.applyPending r = { s with ramps := (s.applyPending r).ramps } := by
  unfold State.applyPending
  cases h : s.rampState r <;> simp [State.modCtl, State.modRamp, State.setRamp]

@[simp] theorem applyPending_chan (s : State) (r : Fin 4) : (s.applyPending r).chan = s.chan := by
  rw [applyPending_eq]; rfl

/-! ## Steps 4 and 5: spill and the rate -/

@[simp] theorem meterClose_chan (s : State) (r : Fin 4) : (s.meterClose r).chan = s.chan := by
  unfold State.meterClose; split <;> [skip; rfl]
  simp only [State.computeRate, State.evaluateSpill, State.modRamp, State.modQueue]; split <;> rfl

theorem meterClose_ramp_ne {s : State} {r i : Fin 4} (h : i ≠ r) : (s.meterClose r).ramp i = s.ramp i := by
  unfold State.meterClose; split <;> [skip; rfl]
  simp only [State.computeRate, State.evaluateSpill, State.modRamp, State.modQueue]
  split <;> simp [h, State.setRamp_ramp]

/-- Steps 4 and 5 change ramps and the Fault Register alone. -/
theorem meterClose_eq (s : State) (r : Fin 4) :
    s.meterClose r = { s with ramps := (s.meterClose r).ramps, faults := (s.meterClose r).faults } := by
  unfold State.meterClose; split <;> [skip; rfl]
  simp only [State.computeRate, State.evaluateSpill, State.modRamp, State.modQueue, State.setRamp]; split <;> rfl

/-- Steps 4 and 5 leave the Ramp Control and station parts of the ramp, and hand its Scheduler the headway formed. -/
theorem meterClose_ctl (s : State) (r : Fin 4) :
    ((s.meterClose r).ramp r).ctl = (s.ramp r).ctl ∧ ((s.meterClose r).ramp r).station = (s.ramp r).station
      ∧ ((s.meterClose r).ramp r).sched =
        (s.ramp r).sched.handed (s.ramp r).rate.headway ((s.meterClose r).ramp r).rate.headway := by
  unfold State.meterClose; split <;> [skip; simp]
  simp only [State.computeRate, State.evaluateSpill, State.modRamp, State.modQueue]
  split <;> simp [handRate_sched]

/-! ## Steps 1 to 5 together -/

theorem closeMeasured_afterLatch (s : State) (r : Fin 4) :
    s.closeMeasured r = (((s.afterLatch r).formStation r).applyPending r).meterClose r := rfl

/-- Four changes in a row, of channels, ramps and the Fault Register alone. -/
theorem changes_compose {s a b c d : State} (h1 : a = { s with channels := a.channels, ramps := a.ramps })
    (h2 : b = { a with ramps := b.ramps, faults := b.faults }) (h3 : c = { b with ramps := c.ramps })
    (h4 : d = { c with ramps := d.ramps, faults := d.faults }) :
    d = { s with channels := d.channels, ramps := d.ramps, faults := d.faults } := by
  cases a; cases b; cases c; cases d; cases s
  simp only [State.mk.injEq, true_and] at *
  simp_all

/-- Steps 1 to 5 change channels, ramps and the Fault Register alone. -/
theorem closeMeasured_eq (s : State) (r : Fin 4) :
    s.closeMeasured r =
      { s with
        channels := (s.closeMeasured r).channels, ramps := (s.closeMeasured r).ramps
        faults := (s.closeMeasured r).faults } := by
  rw [closeMeasured_afterLatch]
  exact changes_compose (afterLatch_eq s r) (formStation_eq _ r) (applyPending_eq _ r) (meterClose_eq _ r)

@[simp] theorem closeMeasured_chan (s : State) (r : Fin 4) : (s.closeMeasured r).chan = (s.afterLatch r).chan := by
  simp only [closeMeasured_afterLatch, meterClose_chan, applyPending_chan, formStation_chan]

end Sys2Proof.Machine
end

