-- ==== Sys2Proof/Tests/Slice0.lean ====
section
/-! SUPPORT. The author's tests: the check of WellFormed, frames read byte by byte from the table of section 12.5, the worked
cases of the manual, and for every statement a witness that its hypotheses can be met, clause by clause. -/

namespace Sys2Proof.Tests

open Sys2Proof.Machine

/-! ## WellFormed and the frames of section 12.5 -/

/-- WellFormed's one check refuses BAD_OPCODE with an opcode that is in the table. -/
theorem test_badOpcode_of_a_known_opcode_is_ill_formed : (Instr.badOpcode 0x33).wellFormed = false := by decide

theorem test_badOpcode_of_an_unknown_opcode_is_well_formed : (Instr.badOpcode 0x54).wellFormed = true := by decide

theorem test_frame_of_supervision_set :
    decodeFrame [0x04, 0x01, 0x3C, 0x02, 0x58] = some (.supervisionSet 1 60 600) := by decide

theorem test_frame_of_detector_configure :
    decodeFrame [0x10, 0x05, 0x01, 0x02, 0x02, 0x05, 0x0A, 0x08] = some (.detectorConfigure 5 1 2 2 5 10 8) := by decide

theorem test_frame_of_plan_write :
    decodeFrame
      [0x20, 0x06, 0x01, 0x18, 0x37, 0x00, 0x64, 0x0F, 0xA0, 0x00, 0x32, 0x02, 0xBC, 0x00, 0xF0, 0x01, 0xF4, 0x00, 0x78,
       0x01, 0x04, 0x03, 0x00, 0xC8, 0x05, 0x05] =
      some (.planWrite 6
        { target := 280, gain := 55, rateMin := 100, rateMax := 4000, rateStart := 50, rateFallback := 700, maxWait := 240
          spillOcc := 500, spillStep := 120, onOcc := 260, onCount := 3, offOcc := 200, offCount := 5, offQueue := 5 }) := by
  decide

theorem test_frame_of_ramp_override : decodeFrame [0x37, 0x00, 0x01, 0x90, 0x0F] = some (.rampOverride 0 400 15) := by
  decide

theorem test_frame_of_lane_configure :
    decodeFrame [0x40, 0x07, 0xFF, 0x0F, 0x14, 0x00, 0x14, 0x32, 0x00, 0x96] =
      some (.laneConfigure 7 0xFF 15 20 20 50 150) := by decide

theorem test_frame_of_fault_clear : decodeFrame [0x51, 0x00, 0x30] = some (.faultClear 0x0030) := by decide

theorem test_frame_of_lamp_settings : decodeFrame [0x53, 0x14, 0x03] = some (.lampSettings 20 3) := by decide

theorem test_frame_with_an_unknown_opcode : decodeFrame [0x23, 0x00] = some (.badOpcode 0x23) := by decide

theorem test_frame_cut_short : decodeFrame [0x37, 0x00, 0x01, 0x90] = none := by decide

/-! ## The worked cases of the manual -/

/-- Section 1.10: 900 units of on-time in 30 s are 300 per mille; a FAULTED channel holds what it has and latches invalid. -/
theorem test_latch_of_a_whole_period :
    let c := ({ Channel.fullReset false with
      duty := .mainline 1, state := .active, onTime := 900, count := 17, periodMark := true } : Channel).latch 30
    c.latchedOcc = 300 ∧ c.latchedCount = 17 ∧ c.latchedValid = true ∧ c.onTime = 0 ∧ c.periodMark = true := by decide

theorem test_latch_of_a_faulted_channel :
    let c := ({ Channel.fullReset false with
      duty := .mainline 1, state := .faulted .chatter, onTime := 340, count := 15 } : Channel).latch 30
    c.latchedOcc = 113 ∧ c.latchedCount = 15 ∧ c.latchedValid = false ∧ c.onTime = 340 ∧ c.periodMark = false := by decide

/-- Section 2.4. -/
theorem test_station_of_three_loops :
    Station.start.formed 3 930 55 30 = { valid := true, occupancy := 310, flow := 6600, size := 3 } := by decide

theorem test_station_mean_rounds_half_up :
    Station.start.formed 2 611 35 30 = { valid := true, occupancy := 306, flow := 4200, size := 2 } := by decide

/-- Section 4.7: the first write, and the write that clamps in the second step alone. -/
theorem test_plan_clamped :
    let p := ({ PlanFields.free with
      gain := 55, rateMin := 100, rateMax := 4000, rateStart := 50, rateFallback := 700 } : PlanFields).candidate
    p.gain = 40 ∧ p.rateMin = 120 ∧ p.rateMax = 3600 ∧ p.rateStart = 120 ∧ p.rateFallback = 700 ∧ p.sound = true := by
  decide

theorem test_plan_refused :
    ({ PlanFields.free with rateMin := 1800, rateMax := 200 } : PlanFields).candidate.sound = false
    ∧ ({ PlanFields.free with onOcc := 1200, offOcc := 1100 } : PlanFields).candidate.sound = false
    ∧ ({ PlanFields.free with onOcc := 1200, offOcc := 990 } : PlanFields).candidate.sound = true := by decide

/-- Sections 6.6 and 6.7: close A by feedback, close B by spill, close D capped, close E by fallback. -/
theorem test_rate_close_A :
    ({ Rate.fullReset with final := 900, ceiling := 1308 } : Rate).compute { PlanFields.free with rateFallback := 600 }
      { valid := true, occupancy := 310, flow := 6600, size := 3 } 22 false =
      { final := 690, headway := 53, decision := .feedback, e := -30, r1 := 690, r2 := 690, rWait := 330, rSpill := 0
        ceiling := 1308 } := by decide

theorem test_rate_close_B :
    ({ Rate.fullReset with final := 690, ceiling := 1308 } : Rate).compute { PlanFields.free with rateFallback := 600 }
      { valid := true, occupancy := 300, flow := 0, size := 3 } 40 true =
      { final := 810, headway := 45, decision := .spill, e := -20, r1 := 550, r2 := 550, rWait := 600, rSpill := 810
        ceiling := 1308 } := by decide

theorem test_rate_close_D :
    ({ Rate.fullReset with final := 654, ceiling := 654 } : Rate).compute { PlanFields.free with rateFallback := 600 }
      { valid := true, occupancy := 330, flow := 0, size := 3 } 60 false =
      { final := 654, headway := 56, decision := .cap, e := -50, r1 := 304, r2 := 304, rWait := 900, rSpill := 0
        ceiling := 654 } := by decide

theorem test_rate_close_E :
    let r := ({ Rate.fullReset with final := 654, ceiling := 654 } : Rate).compute { PlanFields.free with rateFallback := 600 }
      { valid := false, occupancy := 330, flow := 0, size := 0 } 20 false
    r.final = 600 ∧ r.headway = 60 ∧ r.decision = .fallback ∧ r.e = 0 ∧ r.r1 = 600 ∧ r.r2 = 600 ∧ r.rWait = 300
    ∧ r.rSpill = 0 := by decide

/-- Section 6.8: the lowest rate, and an override below the least rate. -/
theorem test_rate_lowest :
    let r := ({ Rate.fullReset with final := 300, ceiling := 94 } : Rate).compute
      { PlanFields.free with target := 50, gain := 40, rateMax := 3600, maxWait := 60, spillStep := 600 }
      { valid := true, occupancy := 1000, flow := 0, size := 1 } 250 true
    r.r1 = -37700 ∧ r.rWait = 15000 ∧ r.rSpill = 900 ∧ r.final = 94 ∧ r.headway = 383 ∧ r.decision = .cap := by
  decide

theorem test_override_below_the_least_rate :
    let r := ({ Rate.fullReset with ceiling := 94 } : Rate).atOverride 60
    r.final = 94 ∧ r.headway = 383 ∧ r.decision = .override := by decide

/-- Section 6.7: the loss of a lane cuts the rate to the ceiling. -/
theorem test_rate_capped_by_a_lost_lane :
    let r := ({ Rate.fullReset with final := 930, headway := 39, decision := .spill, ceiling := 1308 } : Rate).newCeiling true 654
    r.final = 654 ∧ r.headway = 56 ∧ r.decision = .cap := by decide

/-- Section 10.6: QUEUE_SPILL, DET_STUCK_ON, LAMP_TRANSIENT and MAINLINE_LOST. -/
def episode : FaultRegister :=
  (((FaultRegister.reset.onset { kind := .queueSpill, object := .ramp, index := 1, detail := 0, uptime := 5318 }).onset
    { kind := .detStuckOn, object := .detector, index := 8, detail := 1, uptime := 5412 }).onset
    { kind := .lampTransient, object := .lane, index := 2, detail := 0, uptime := 5430 }).onset
    { kind := .mainlineLost, object := .ramp, index := 2, detail := 2, uptime := 5447 }

theorem test_fault_episode :
    episode.flags = 0x0432 ∧ episode.further = true ∧ episode.alerting = true
    ∧ episode.first = some { kind := .detStuckOn, object := .detector, index := 8, detail := 1, uptime := 5412 } := by decide

theorem test_fault_episode_cleared :
    (episode.clear 0x0030).flags = 0x0402 ∧ (episode.clear 0x0030).further = true
    ∧ ((episode.clear 0x0030).clear 0x0002).flags = 0x0400 ∧ ((episode.clear 0x0030).clear 0x0002).first = none
    ∧ ((episode.clear 0x0030).clear 0x0002).alerting = false := by decide

/-! ## Small states -/

/-- A lane of ramp 0, in service, in the state given. -/
def lane (st : LaneState) : Lane :=
  { Lane.fullReset Lamps.dark with ramp := some 0, inService := true, state := st }

/-- Ramp 0 in the state given, with plan 0 active and one lane's ceiling. -/
def ramp (st : RampState) : Ramp :=
  { Ramp.fullReset with
    ctl := { RampControl.fullReset with state := st, active := some 0 }
    rate := { Rate.fullReset with final := 654, headway := 56, ceiling := 654 }
    sched := { waiting := [], sinceGrant := 56, fresh := false } }

/-- Ramp 0 with lane 0 as its one member, the lamp supply present. -/
def part (r : RampState) (l : LaneState) : State :=
  { ((State.reset.setPlan 0 { defined := true, fields := PlanFields.free }).setRamp 0 (ramp r)).setLane 0 (lane l) with
    lamp := { LampUnit.fullReset true with present := true } }

/-- A channel with a duty, in the state given. -/
def channel (d : Duty) (st : ChannelState) : Channel := { Channel.fullReset false with duty := d, state := st }

/-- The state a command leaves. -/
def after (c : Instr) (s : State) : State :=
  match exec c s with
  | .next t => t
  | _ => s

/-! ## One step -/

theorem test_step_takes_the_front_command :
    step { State.reset with pending := [.setLock 2, .readCaps] } =
      exec (.setLock 2) { State.reset with pending := [.readCaps] } := rfl

theorem test_start_enters_metering :
    (after (.rampStart 0) (part .standby .dark)).rampState 0 = .metering
    ∧ ((after (.rampStart 0) (part .standby .dark)).lane 0).state = .proving := by decide

theorem test_stop_of_a_red_lane_flushes :
    (after (.rampStop 0) (part .metering .redReady)).rampState 0 = .stopping
    ∧ ((after (.rampStop 0) (part .metering .redReady)).lane 0).timer = 150 := by decide

theorem test_min_red_expiry_joins_the_list :
    ((after (.minRedExpiry 0) (part .metering .redMin)).ramp 0).sched.waiting = [0] := by decide

theorem test_supply_loss_on_a_stopping_ramp_ends_in_standby :
    (after .supplyLoss (part .stopping .flush)).rampState 0 = .standby
    ∧ ((after .supplyLoss (part .stopping .flush)).lane 0).state = .dark := by decide

theorem test_conflict_sends_the_ramp_to_standby :
    let s := (part .metering .redReady).setLane 0 { lane .redReady with sense := { red := true, amber := false, green := true } }
    (after (.conflictQualified 0) s).rampState 0 = .standby
    ∧ ((after (.conflictQualified 0) s).lane 0).state = .faultLocked .conflict := by decide

theorem test_sense_change_is_seen :
    ((after (.lampSenseChange 0 true false false) (part .metering .redMin)).lane 0).sense.red = true := by decide

/-- R106 and R138, the grant first: the conflict reached by the sample locks the lane in GREEN, with the sample's detail 1, though
its red sense stays low. -/
theorem test_conflict_reached_before_a_grant_still_locks :
    let s := (part .metering .redReady).setLane 0
      { lane .redReady with conflictMark := .reached 1, sense := { red := false, amber := false, green := true } }
    let t := after (.conflictQualified 0) (s.setLane 0 (s.lane 0).grant)
    (t.lane 0).state = .faultLocked .conflict ∧ t.faults.first.elim 0 FaultRecord.detail = 1 := by decide

/-- R136: after n - 1 samples with the condition met under red, the change to RESTING and the rise of the red sense at the next
sample leave the timer at n. -/
theorem test_conflict_timer_keeps_its_samples :
    let x : Lane := { lane .redReady with conflict := 11, sense := { red := false, amber := false, green := true } }
    let y := (x.sample 20 false).enter .resting
    (y.senseChange 20 { red := true, amber := false, green := true }).conflict = 12 := by decide

/-- R107: a start, and then at the same moment a lower ceiling: since-last-grant is the new headway, and the ramp is ready. -/
theorem test_headway_changed_at_the_start_leaves_the_ramp_ready :
    let s := after (.rampStart 0) (part .standby .dark)
    let x := (s.ramp 0).handRate ((s.ramp 0).rate.newCeiling true 300)
    x.rate.headway = 120 ∧ x.sched.sinceGrant = 120 ∧ x.ready = true := by decide

theorem test_chatter_faults_the_channel :
    let s := (part .metering .redMin).setChan 5 { channel (.mainline 0) .active with windowCount := 8 }
    ((after (.actuation 5) s).chan 5).state = .faulted .chatter ∧ ((after (.actuation 5) s).chan 5).count = 1 := by decide

/-! ## Witnesses: for each statement, states and operands that meet its hypotheses, one for each of its clauses -/

/-- A state with a command waiting. -/
theorem witness_StepTakesFrontCommand :
    ({ State.reset with pending := [.readCaps, .readStatus] } : State).pending = .readCaps :: [.readStatus] := rfl

/-- Nothing, one event and two events due; in a reset, and outside one. -/
theorem witness_IdleStepTakesADueEvent :
    State.reset.pending = [] ∧ State.reset.due = []
    ∧ ((part .metering .green).setLane 0 { lane .green with settle := some 9 }).due = [.greenExpiry 0]
    ∧ (((part .metering .green).setLane 0 { lane .green with settle := some 9 }).setLane 1
        { lane .amber with settle := some 9 }).due = [.greenExpiry 0, .amberExpiry 1]
    ∧ (after .pinReset State.reset).resetting = true ∧ State.reset.resetting = false := by decide

theorem witness_EveryCommandCompletes : (Instr.badOpcode 0x00).wellFormed = true ∧ (0x53 : Byte) ∈ knownOpcodes := by decide

theorem witness_FrameBytesReadBack :
    (Instr.rampStart 3).wellFormed = true ∧ encodeFrame (.rampStart 3) = some [0x33, 0x03] ∧ 1 < [0x33, 0x03].length := by
  decide

theorem witness_RefusedRequestChangesNothing :
    exec (.rampStart 4) State.reset = .next (after (.rampStart 4) State.reset)
    ∧ isRequest (.rampStart 4) = true ∧ State.reset.hears = true
    ∧ (after (.rampStart 4) State.reset).link.result = some .badId
    ∧ (Instr.rampStart 4).wellFormed = true ∧ (after .powerUpReset State.reset).hears = false
    ∧ (after .restart ({ State.reset with unit := { State.reset.unit with armed := true } } : State)).hears = false :=
  ⟨rfl, by decide⟩

/-- Lane 0 with its green and its red both lit. -/
def conflicting (r : RampState) (st : LaneState) : State :=
  (part r st).setLane 0 { lane st with sense := { red := true, amber := false, green := true } }

theorem witness_TimePasses :
    State.reset.resetting = false ∧ State.reset.tickPhase ≤ 9 ∧ ({ State.reset with tickPhase := 9 } : State).tickPhase ≤ 9
    ∧ (after .pinReset State.reset).resetting = true := by decide

theorem witness_TimePasses_channels :
    let s := (part .metering .redReady).setChan 5 { channel (.mainline 0) .active with occupied := true }
    s.boundRamp 5 = some 0 ∧ (s.chan 5).state = .active ∧ (s.chan 5).occupied = true ∧ s.rampState 0 ≠ .closed
    ∧ (s.chan 6).state ≠ .active := by decide

theorem witness_TimePasses_lanes :
    let s := conflicting .metering .green
    (s.lane 0).InConflict ∧ (s.lane 0).conflictMark ≠ .taken
    ∧ ({ s.lane 0 with conflictMark := .taken } : Lane).conflictMark = .taken ∧ (s.lane 1).ramp = none
    ∧ (lane .green).ramp ≠ none ∧ ¬ (lane .green).InConflict ∧ (lane .green).state ≠ .proving
    ∧ (lane .proving).ramp ≠ none ∧ (lane .proving).state = .proving := by decide

theorem witness_ReadCapsReply : State.reset.hears = true := by decide

theorem witness_ReadStatusReply :
    State.reset.hears = true ∧ State.reset.unit.uptime ≤ 4294967295 ∧ State.reset.link.shortFrames ≤ 255 := by decide

theorem witness_FrameBoundaries :
    let waiting : State := { State.reset with unit := { State.reset.unit with restartPending := true } }
    State.reset.hears = true ∧ State.reset.link.phase = .idle ∧ (after .frameBegin State.reset).link.phase = .receiving
    ∧ (after .readCaps State.reset).hears = true ∧ (after .readCaps State.reset).link.phase = .reply
    ∧ (after .pinReset State.reset).resetting = true
    ∧ ({ State.reset with link := Link.start .waitRise } : State).link.phase = .waitRise
    ∧ waiting.resetting = false ∧ waiting.unit.restartPending = true ∧ waiting.link.phase ≠ .waitRise
    ∧ (0x54 : Byte) ∉ knownOpcodes := by decide

/-- R169: the rise that a second fall implies cuts the open frame, and is counted; after a complete frame it is not. -/
theorem test_second_fall_counts_the_frame_it_cuts :
    (after .frameBegin (after .frameBegin State.reset)).link.shortFrames = 1
    ∧ (after .frameBegin (after .readCaps State.reset)).link.shortFrames = 0
    ∧ (after .readCaps (after .frameBegin State.reset)).link.shortFrames = 0 := by decide

/-- The rise after a complete frame is not counted, the rise that cuts a frame is (R169); a request sent in a reset leaves the
part waiting for a rise (R167). -/
theorem test_rise_after_a_complete_frame_is_not_counted :
    (after .shortFrame (after .readCaps State.reset)).link.shortFrames = 0
    ∧ (after .shortFrame (after .frameBegin State.reset)).link.shortFrames = 1
    ∧ (after .readCaps (after .pinReset State.reset)).link.phase = .waitRise := by decide

theorem witness_ReadReplyLayouts :
    FaultRegister.reset.first = none ∧ episode.first.isSome = true ∧ State.reset.link.phase = .idle
    ∧ (after .frameBegin State.reset).link.phase = .receiving ∧ (Link.start .waitRise).phase = .waitRise
    ∧ (after .readCaps State.reset).link.phase = .reply ∧ (after .readCaps State.reset).link.result = some .ok
    ∧ (after .readCaps State.reset).link.reply.length = 16 := by decide

theorem witness_ReadRequestsChangeNothing :
    State.reset.hears = true ∧ 32 ≤ (32 : Byte).toNat ∧ 16 ≤ (16 : Byte).toNat ∧ 4 ≤ (4 : Byte).toNat ∧ 8 ≤ (8 : Byte).toNat := by
  decide

/-- Supervision on, with the first mark and the last token given. -/
def supervised (first : Bool) (token : Byte) (stage : Stage) : State :=
  { State.reset with sup := { Supervision.fullReset with enable := true, firstMark := first, lastToken := token, stage := stage } }

theorem witness_KeepaliveByToken :
    State.reset.hears = true ∧ State.reset.sup.enable = false
    ∧ (supervised true 0 .present).sup.enable = true ∧ (supervised true 0 .present).sup.firstMark = true
    ∧ (supervised false 255 .two).sup.firstMark = false ∧ (0 : Byte) = (supervised false 255 .two).sup.lastToken + 1
    ∧ (44 : Byte) ≠ (supervised false 41 .two).sup.lastToken + 1 ∧ (supervised false 41 .two).hears = true := by decide

/-- The SUPERVISION lock set, with supervision on. -/
def locked : State := { supervised false 41 .one with locks := { supervision := true, timing := true } }

theorem witness_SupervisionSetWrites :
    locked.hears = true ∧ locked.locks.supervision = true ∧ State.reset.hears = true
    ∧ State.reset.locks.supervision = false ∧ 1 < (2 : Byte).toNat ∧ (1 : Byte).toNat ≤ 1 := by decide

theorem witness_SetOnceLocks :
    exec .commandRestart locked = .next (after .commandRestart locked) ∧ locked.hears = true ∧ locked.locks.supervision = true ∧ (supervised true 0 .present).sup.enable = true
    ∧ State.reset.hears = true ∧ State.reset.locks.supervision = false ∧ State.reset.sup.enable = false
    ∧ (3 : Byte) ≠ 1 ∧ (3 : Byte) ≠ 2 ∧ locked.locks.timing = true :=
  ⟨rfl, by decide⟩

theorem witness_StageOneOnset :
    (supervised false 41 .present).resetting = false ∧ (supervised false 41 .present).sup.enable = true
    ∧ (supervised false 41 .present).sup.stage = .present ∧ (supervised false 41 .present).sup.keptAlive = false
    ∧ (after (.keepalive 42) (supervised false 41 .present)).sup.keptAlive = true
    ∧ (after (.keepalive 42) (supervised false 41 .present)).sup.stage = .present := by decide

/-- R159: with the keepalive accepted first, the expiry of the same moment does not happen. -/
theorem test_keepalive_first_holds_off_stage_1 :
    let s := { supervised false 41 .present with sup := { (supervised false 41 .present).sup with timer := 600 } }
    (after .stage1Onset (after (.keepalive 42) s)).sup.stage = .present ∧ (after .stage1Onset s).sup.stage = .one := by decide

/-- Ramp 0 METERING at stage 1, ramp 1 CLOSED. -/
def lostHost : State :=
  { part .metering .green with sup := { Supervision.fullReset with enable := true, stage := .one, timer := 600 } }

theorem witness_StageTwoOnset :
    lostHost.resetting = false ∧ lostHost.sup.enable = true ∧ lostHost.sup.stage = .one
    ∧ lostHost.rampRuns 0 = true ∧ lostHost.rampRuns 1 = false := by decide

/-- The ramp of `lostHost` with its lane proving and a QUEUE channel served: it goes on to STANDBY, and the marks go. -/
theorem witness_StageTwoOnset_queue :
    let s := (lostHost.setLane 0 (lane .proving)).setChan 5 { channel (.queue 0) .active with queueTimer := 100, served := true }
    (s.chan 5).duty = .queue 0 ∧ s.rampRuns 0 = true ∧ EveryLaneOut (after .stage2Onset s) 0
    ∧ ((after .stage2Onset s).chan 5).served = false ∧ ¬ EveryLaneOut (after .stage2Onset lostHost) 0
    ∧ (s.chan 6).duty ≠ .queue 0 := by
  unfold EveryLaneOut; decide

theorem witness_FullResetBeginsAndEnds :
    (Instr.clockLossReset = .clockLossReset
      ∧ ({ ResetKinds.none with clock := true } : ResetKinds) = { State.reset.unit.inReset with clock := true })
    ∧ (after .clockLossReset State.reset).resetting = true
    ∧ (after .frameBegin (after .clockLossReset State.reset)).link.phase = .waitRise := by decide

/-- An accepted RESTART whose frame is still open. -/
def restarting : State := { part .standby .dark with unit := { State.reset.unit with restartPending := true } }

theorem witness_CommandRestartKeepsConfiguration :
    restarting.unit.restartPending = true ∧ restarting.resetting = false ∧ restarting.rampState 0 ≠ .closed
    ∧ restarting.rampState 1 = .closed := by decide

theorem witness_RestartAndCauseRequests :
    State.reset.hears = true ∧ State.reset.unit.armed = false
    ∧ (after .restartArm State.reset).unit.armed = true ∧ (∀ r, ((after .restartArm State.reset).rampState r).isUp = false)
    ∧ (after .restartArm (part .metering .green)).unit.armed = true
    ∧ ((after .restartArm (part .metering .green)).rampState 0).isUp = true := by decide

theorem witness_OnsetIsRegistered :
    FaultKind.conflict.capturing = true ∧ FaultKind.autoChange.capturing = false ∧ FaultRegister.reset.first = none
    ∧ episode.first.isSome = true := by decide

theorem witness_FaultClearByMask :
    ({ State.reset with faults := episode } : State).hears = true
    ∧ episode.first = some { kind := .detStuckOn, object := .detector, index := 8, detail := 1, uptime := 5412 }
    ∧ (0x0002 : Half).getLsbD FaultKind.detStuckOn.number = true
    ∧ (0x0030 : Half).getLsbD FaultKind.detStuckOn.number = false ∧ State.reset.faults.first = none := by decide

theorem witness_AlertMaskWrites : State.reset.hears = true := by decide

/-- The part with channel 5 as given. -/
def withChannel (x : Channel) : State := (part .metering .redReady).setChan 5 x

theorem witness_DetectorConfigure :
    State.reset.hears = true ∧ 32 ≤ (32 : Byte).toNat ∧ (5 : Byte) = byteOf (5 : Fin 32).val
    ∧ ((withChannel (channel (.mainline 0) .parked)).chan 5).state = .parked
    ∧ (State.reset.chan 5).state ≠ .parked ∧ 5 < (6 : Byte).toNat
    ∧ (1 ≤ (3 : Byte).toNat ∧ (3 : Byte).toNat ≤ 3 ∧ 4 ≤ (4 : Byte).toNat) ∧ (4 : Byte) ≠ 0xFF
    ∧ (4 ≤ (4 : Byte).toNat ∧ (4 : Byte).toNat ≤ 5 ∧ 8 ≤ (8 : Byte).toNat)
    ∧ State.reset.rampState 0 = .closed ∧ (State.reset.lane 0).ramp = none
    ∧ (part .standby .dark).rampState 0 ≠ .closed ∧ ((part .standby .dark).lane 0).ramp ≠ none
    ∧ (Duty.mainline 0) ≠ .unused ∧ (0 : Byte) = (Duty.mainline 0).bindingByte := by decide

theorem witness_DetectorParkUnparkRestore :
    (withChannel (channel (.queue 0) .active)).hears = true
    ∧ ((withChannel (channel (.queue 0) .active)).chan 5).state = .active
    ∧ ((withChannel (channel (.queue 0) .parked)).chan 5).state = .parked
    ∧ ((withChannel (channel (.queue 0) (.faulted .silent))).chan 5).state = .faulted .silent
    ∧ (State.reset.chan 5).state = .unused ∧ 32 ≤ (0xFF : Byte).toNat := by decide

theorem witness_ActuationCounts :
    let s := withChannel { channel (.entry 0) .active with windowCount := 7 }
    let t := withChannel { channel (.entry 0) .active with windowCount := 8 }
    s.resetting = false ∧ (s.chan 5).state = .active ∧ (s.chan 5).acquiring = false ∧ (s.chan 5).occupied = false
    ∧ (s.chan 5).windowCount + 1 ≤ (s.chan 5).chatter ∧ (t.chan 5).chatter < (t.chan 5).windowCount + 1 := by decide

theorem witness_FallingEdgeAndAcquisition :
    let s := withChannel { channel (.demand 0) .active with occupied := true }
    let t := withChannel { channel (.demand 0) .active with acquiring := true }
    s.resetting = false ∧ (s.chan 5).state = .active ∧ (s.chan 5).acquiring = false ∧ (s.chan 5).occupied = true
    ∧ (t.chan 5).state = .active ∧ (t.chan 5).acquiring = true := by decide

theorem witness_DetectorSupervisionFaults :
    let s := withChannel { channel (.mainline 0) .active with occupied := true, silent := 10 }
    s.resetting = false ∧ (s.chan 5).state = .active ∧ (s.chan 5).occupied = true ∧ (s.chan 5).silent ≠ 0
    ∧ s.boundRamp 5 = some 0 ∧ s.rampState 0 = .metering := by decide

/-- The operands of a PLAN WRITE that passes, and of one whose bounds cross. -/
def planOperands (rateMin rateMax : Half) : PlanOperands where
  target := 280
  gain := 7
  rateMin := rateMin
  rateMax := rateMax
  rateStart := 900
  rateFallback := 900
  maxWait := 240
  spillOcc := 500
  spillStep := 120
  onOcc := 250
  onCount := 3
  offOcc := 180
  offCount := 5
  offQueue := 5

theorem witness_PlanWriteChecksAndWrites :
    State.reset.hears = true ∧ (PlanFields.sent (planOperands 240 1800)).candidate.sound = true
    ∧ (PlanFields.sent (planOperands 1800 200)).candidate.sound = false ∧ 16 ≤ (16 : Byte).toNat := by decide

theorem witness_PlanRetireFreesThePlan :
    (part .standby .dark).hears = true ∧ ((part .standby .dark).ramp 0).ctl.active = some 0
    ∧ (∀ r, ((part .standby .dark).ramp r).ctl.active ≠ some 1 ∧ ((part .standby .dark).ramp r).ctl.pending ≠ some 1)
    ∧ 16 ≤ (16 : Byte).toNat := by decide

theorem witness_RampConfigureWrites :
    State.reset.hears = true ∧ (part .suspended .resting).rampRuns 0 = true
    ∧ (part .stopping .flush).rampState 0 = .stopping ∧ State.reset.rampState 0 = .closed
    ∧ (part .standby .dark).rampState 0 = .standby ∧ 4 ≤ (4 : Byte).toNat := by decide

/-- Ramp 0 in STANDBY with nothing bound to it. -/
def bareRamp : State := State.reset.setRamp 0 (ramp .standby)

theorem witness_RampCloseReturnsTheRecord :
    State.reset.hears = true ∧ State.reset.rampState 0 ≠ .standby
    ∧ (part .standby .dark).rampState 0 = .standby ∧ ((part .standby .dark).lane 0).ramp = some 0
    ∧ bareRamp.rampState 0 = .standby ∧ (∀ l, (bareRamp.lane l).ramp ≠ some 0) ∧ (∀ c, bareRamp.boundRamp c ≠ some 0)
    ∧ 4 ≤ (4 : Byte).toNat := by decide

theorem witness_RampPlanAndMode :
    State.reset.hears = true ∧ State.reset.rampState 0 = .closed ∧ 16 ≤ (16 : Byte).toNat ∧ (16 : Byte) ≠ 0xFF
    ∧ (part .metering .green).rampState 0 ≠ .closed ∧ ((part .metering .green).plan 1).defined = false
    ∧ ((part .metering .green).plan 0).defined = true ∧ (0 : Byte) = indexByte (some (0 : Fin 16))
    ∧ (0xFF : Byte) = indexByte (none : Option (Fin 16)) ∧ 1 < (2 : Byte).toNat ∧ (1 : Byte) = byteOf Mode.auto.code := by
  decide

theorem witness_RampStartStarts :
    State.reset.hears = true ∧ State.reset.rampState 0 ≠ .standby
    ∧ (part .standby .dark).rampState 0 = .standby ∧ ((part .standby .dark).ramp 0).ctl.active = some 0
    ∧ StartFails (part .standby .dark) 0 = none ∧ EveryLaneOut (part .standby .dark) 0
    ∧ StartFails bareRamp 0 = some .undefined
    ∧ StartFails ((part .standby .dark).setLane 1 (lane (.faultLocked .conflict))) 0 = some .lockedOut
    ∧ StartFails { part .standby .dark with sup := (supervised true 0 .two).sup } 0 = some .supervision := by
  unfold EveryLaneOut; decide

theorem witness_RampStopStops :
    State.reset.hears = true ∧ State.reset.rampState 0 = .closed ∧ (part .stopping .flush).rampState 0 = .stopping
    ∧ (part .suspended .resting).rampRuns 0 = true := by decide

theorem witness_RampSuspendRests :
    let s := part .metering .redReady
    s.hears = true ∧ (part .standby .dark).rampState 0 ≠ .metering ∧ s.rampState 0 = .metering
    ∧ (s.ramp 0).ctl.holdOff = 0 ∧ (∀ l, (s.lane l).ramp = some 0 → (s.lane l).redSuspect = false)
    ∧ ((s.setRamp 0 { ramp .metering with ctl := { (ramp .metering).ctl with holdOff := 95 } }).ramp 0).ctl.holdOff ≠ 0
    ∧ ((s.setLane 0 { lane .redReady with redSuspect := true }).lane 0).redSuspect = true := by decide

theorem witness_ResumeReturnsToMetering :
    (part .metering .green).hears = true ∧ (part .metering .green).rampState 0 ≠ .suspended
    ∧ (part .suspended .resting).resetting = false ∧ (part .suspended .resting).rampState 0 = .suspended
    ∧ (part .suspended .resting).hears = true := by decide

theorem witness_OverrideAndHoldOff :
    (part .standby .dark).hears = true ∧ (part .standby .dark).rampState 0 ≠ .metering
    ∧ lostHost.hears = true ∧ lostHost.rampState 0 = .metering ∧ lostHost.sup.stage ≠ .present
    ∧ (part .metering .green).rampState 0 = .metering ∧ (part .metering .green).sup.stage = .present
    ∧ (part .metering .green).resetting = false := by decide

/-- Channel 5 as an occupied QUEUE channel, channel 6 as lane 0's clear DEMAND channel. -/
def drained : State :=
  ((part .metering .redReady).setChan 6 (channel (.demand 0) .active)).setRamp 0
    { ramp .metering with queue := { Queue.fullReset with stored := 9, armed := true } }

theorem witness_CorrectionsOfTheCount :
    let s := withChannel { channel (.queue 0) .active with occupied := true }
    s.resetting = false ∧ (s.chan 5).duty = .queue 0 ∧ (s.chan 5).state = .active ∧ (s.chan 5).occupied = true
    ∧ (s.chan 5).served = false ∧ s.rampState 0 = .metering
    ∧ drained.resetting = false ∧ drained.emptyRuns 0 = true ∧ (drained.ramp 0).queue.armed = true
    ∧ s.emptyRuns 0 = false := by decide

/-- Lane 0 at the head of the list of a ready ramp. -/
def listed : State :=
  (part .metering .redReady).setRamp 0 { ramp .metering with sched := { waiting := [0], sinceGrant := 56, fresh := false } }

theorem witness_GrantGivesGreen :
    listed.resetting = false ∧ listed.rampState 0 = .metering
    ∧ (listed.ramp 0).rate.headway ≤ (listed.ramp 0).sched.sinceGrant ∧ (listed.ramp 0).sched.waiting = 0 :: []
    ∧ (listed.lane 0).state = .redReady
    ∧ ((part .metering .redReady).ramp 0).sched.waiting = [] ∧ (part .standby .dark).rampState 0 ≠ .metering := by decide

theorem witness_IntervalCloseMeasures :
    (part .metering .green).rampState 0 ≠ .closed ∧ (part .metering .green).resetting = false
    ∧ (part .metering .green).effectiveMode 0 = .host ∧ (part .standby .dark).rampState 0 ≠ .metering
    ∧ (part .standby .dark).rampState 0 ≠ .closed
    ∧ (withChannel (channel (.mainline 0) .active)).boundRamp 5 = some 0
    ∧ (withChannel (channel (.mainline 0) .active)).boundRamp 6 ≠ some 0 := by decide

theorem witness_CloseComputesTheRate :
    (part .metering .green).rampState 0 = .metering
    ∧ ((part .metering .green).ramp 0).ctl.pending.or ((part .metering .green).ramp 0).ctl.active = some 0
    ∧ ((part .metering .green).ramp 0).ctl.override = none
    ∧ ((after (.rampOverride 0 500 15) (part .metering .green)).ramp 0).ctl.override =
        some { rate := 500, minutes := 15, run := 0 } := by decide

/-- Ramp 0 in mode AUTO with the run counters given; channel 5 is its mainline with the on-time given. -/
def automatic (r : RampState) (st : LaneState) (onTime run : Nat) : State :=
  ((part r st).setRamp 0 { ramp r with ctl := { (ramp r).ctl with mode := .auto, onRun := run, offRun := run } }).setChan 5
    { channel (.mainline 0) .active with onTime := onTime, periodMark := true }

theorem witness_AutomaticActivation_start :
    let s := automatic .standby .dark 900 2
    let m := s.closeMeasured 0
    s.resetting = false ∧ s.rampState 0 ≠ .closed ∧ s.effectiveMode 0 = .auto ∧ (m.ramp 0).ctl.active = some 0
    ∧ (m.ramp 0).station.valid = true ∧ (m.ramp 0).station.occupancy = 300 ∧ (s.plan 0).fields.onCount = 3
    ∧ StartFails m 0 = none ∧ s.unit.restartPending = false ∧ EveryLaneOut s 0 := by
  unfold EveryLaneOut; decide

theorem witness_AutomaticActivation_refused_and_waiting :
    let s := automatic .standby (.faultLocked .redLamp) 900 2
    let m := s.closeMeasured 0
    let w := automatic .standby .dark 900 1
    s.effectiveMode 0 = .auto ∧ (m.ramp 0).station.occupancy = 300 ∧ StartFails m 0 = some .undefined
    ∧ w.effectiveMode 0 = .auto ∧ (w.ramp 0).ctl.onRun + 1 < (w.plan 0).fields.onCount := by decide

theorem witness_AutomaticActivation_stop :
    let s := automatic .metering .green 300 4
    let m := s.closeMeasured 0
    s.resetting = false ∧ s.effectiveMode 0 = .auto ∧ s.rampState 0 = .metering ∧ (m.ramp 0).ctl.active = some 0
    ∧ (m.ramp 0).station.valid = true ∧ (m.ramp 0).station.occupancy = 100 ∧ (s.plan 0).fields.offCount = 5
    ∧ (s.ramp 0).queue.stored ≤ (s.plan 0).fields.offQueue
    ∧ ((automatic .metering .green 300 0).ramp 0).ctl.offRun + 1 < (s.plan 0).fields.offCount
    ∧ (automatic .suspended .resting 0 0).rampState 0 = .suspended := by decide

theorem witness_LaneEntersAState :
    (lane .redReady).ramp ≠ none ∧ (Lane.fullReset Lamps.dark).ramp = none ∧ ((lane .green).enter .dark).isOut = true
    ∧ ((lane .green).enter .flush).isOut = false ∧ (lane .dark).isOut = true := by decide

theorem witness_RampHearsItsLanes :
    (part .metering .green).rampRuns 0 = true ∧ (part .metering .green).ableLanes 0 ≠ []
    ∧ (part .metering (.faultLocked .redLamp)).rampRuns 0 = true ∧ (part .metering (.faultLocked .redLamp)).ableLanes 0 = []
    ∧ (part .stopping .dark).rampState 0 = .stopping ∧ EveryLaneOut (part .stopping .dark) 0
    ∧ ¬ EveryLaneOut (part .stopping .flush) 0 ∧ (part .standby .dark).rampState 0 = .standby
    ∧ State.reset.rampState 0 = .closed := by
  unfold EveryLaneOut; decide

/-- The ramp's four places taken, by lanes 0 to 3. -/
def crowded : State :=
  (((part .standby .dark).setLane 1 (lane .dark)).setLane 2 (lane .dark)).setLane 3 (lane .dark)

theorem witness_LaneConfigureWrites :
    State.reset.hears = true ∧ 8 ≤ (8 : Byte).toNat ∧ 4 ≤ (4 : Byte).toNat ∧ (4 : Byte) ≠ 0xFF
    ∧ ((part .metering .green).lane 0).state ≠ .dark ∧ (State.reset.lane 0).state = .dark
    ∧ (0 : Byte) = indexByte (some (0 : Fin 4)) ∧ State.reset.rampState 0 = .closed
    ∧ crowded.rampState 0 ≠ .closed ∧ (crowded.lane 4).ramp ≠ some 0 ∧ 4 ≤ (crowded.members 0).length
    ∧ ((part .standby .dark).members 0).length < 4
    ∧ (((part .standby .dark).setChan 6 (channel (.demand 0) .active)).chan 6).duty = .demand 0
    ∧ (0xFF : Byte) = indexByte (none : Option (Fin 4)) ∧ locked.locks.timing = true ∧ State.reset.locks.timing = false := by
  decide

theorem witness_LaneServiceRequests :
    State.reset.hears = true ∧ 8 ≤ (8 : Byte).toNat ∧ (State.reset.lane 0).ramp = none
    ∧ (part .suspended .resting).rampState 0 = .suspended ∧ ((part .suspended .resting).lane 0).ramp = some 0
    ∧ (part .metering .dark).rampState 0 ≠ .suspended ∧ (lane .dark).leaving = false ∧ (lane .dark).inService = true
    ∧ ({ lane .dark with inService := false } : Lane).inService = false ∧ (lane .dark).isOut = true
    ∧ (lane .green).isOut = false ∧ ({ lane .flush with leaving := true } : Lane).leaving = true
    ∧ (lane .green).isLocked = false ∧ (lane (.faultLocked .redLamp)).isLocked = true := by decide

theorem witness_LaneTimedTransitions :
    (part .metering .redMin).resetting = false ∧ ((part .metering .redMin).lane 0).state = .redMin
    ∧ (part .stopping .redMin).rampState 0 = .stopping ∧ (part .suspended .redMin).rampState 0 = .suspended
    ∧ ((part .metering .redMin).lane 0).leaving = false ∧ (part .metering .redMin).rampState 0 = .metering
    ∧ ((part .metering .starting).lane 0).state = .starting ∧ ((part .metering .green).lane 0).state = .green
    ∧ ((part .metering .amber).lane 0).state = .amber ∧ ((part .metering .flush).lane 0).state = .flush
    ∧ ((part .metering .proving).lane 0).state = .proving ∧ ((part .metering .proving).lane 0).sense = Lamps.dark := by
  decide

theorem witness_LampChecks :
    let s := part .metering .redReady
    let suspect (n : Nat) (red : Bool) : Lane :=
      { lane .redReady with redSuspect := true, rechecks := n, sense := { red := red, amber := false, green := false } }
    s.resetting = false ∧ (s.lane 0).ramp = some 0 ∧ (s.lane 0).state = .redReady ∧ (s.lane 0).redSuspect = false
    ∧ s.lamp.lsup = true ∧ (s.lane 0).settle = none ∧ (s.lane 0).sense.red = false
    ∧ (suspect 0 true).redSuspect = true ∧ (suspect 0 true).sense.red = true
    ∧ (suspect 1 false).rechecks + 1 < s.lamp.recheckN ∧ s.lamp.recheckN ≤ (suspect 2 false).rechecks + 1
    ∧ State.reset.lamp.lsup = false
    ∧ (lane .green).auxMark = false ∧ (lane .green).aspect = .green ∧ (lane .green).sense.green = false
    ∧ (lane .amber).aspect = .amber ∧ (lane .amber).sense.amber = false := by decide

theorem witness_ConflictQualified :
    let s := conflicting .metering .green
    s.resetting = false ∧ (s.lane 0).ramp = some 0 ∧ (s.lane 0).conflictMark = .counting ∧ (s.lane 0).InConflict
    ∧ ({ s.lane 0 with conflictMark := .reached 1 } : Lane).conflictMark = .reached 1
    ∧ ({ s.lane 0 with conflictMark := .taken } : Lane).conflictMark = .taken ∧ s.rampRuns 0 = true
    ∧ ((after .supplyLoss (conflicting .stopping .flush)).lane 0).conflictMark = .dropped
    ∧ ((after .supplyLoss (conflicting .stopping .flush)).lane 0).ramp = some 0
    ∧ (conflicting .stopping .flush).rampState 0 = .stopping ∧ (conflicting .standby .dark).rampState 0 = .standby
    ∧ ((conflicting .standby .dark).lane 0).aspect ≠ .green
    ∧ ((part .metering .green).lane 0).conflictMark = .counting ∧ ¬ ((part .metering .green).lane 0).InConflict := by decide

/-- The small part keeps the invariants that a statement takes as premises. -/
theorem witness_MeteringStaysSound_metering : (part .metering .green).MeteringSound := by
  unfold State.MeteringSound State.MayMeter LaneTimings.InRange; decide

/-- At the moment of a start too. -/
theorem witness_MeteringStaysSound_fresh :
    (after (.rampStart 0) (part .standby .dark)).MeteringSound
    ∧ ((after (.rampStart 0) (part .standby .dark)).ramp 0).sched.fresh = true := by
  unfold State.MeteringSound State.MayMeter LaneTimings.InRange; decide

theorem witness_MeteringStaysSound_bindings : (part .metering .green).BindingsSound := by
  unfold State.BindingsSound; decide

theorem witness_PlansBindingsAndRampsStaySound :
    let s := (part .metering .green).modCtl 0 fun x => { x with override := some ⟨600, 1, 0⟩, holdOff := 900 }
    s.QueuesSound ∧ s.OptionsSound ∧ (after (.rampSuspend 0 120) (part .metering .green)).OptionsSound
    ∧ (after (.rampSuspend 0 120) (part .metering .green)).rampState 0 = .suspended := by
  unfold State.QueuesSound State.OptionsSound Queue.InRange; decide

theorem witness_MeteringStaysSound_plans : (part .metering .green).PlansSound := by
  refine ⟨?_, ?_, ?_, ?_⟩
  · unfold PlanFields.InRange; decide
  · decide
  · decide
  · decide

theorem witness_RegistersStaySound :
    locked.faults.Sound ∧ (supervised true 0 .present).SupervisionSound ∧ restarting.RestartSound := by
  refine ⟨⟨?_, ?_, ?_, ?_, ?_⟩, ?_, ?_⟩
  · decide
  · decide
  · decide
  · intro x h; cases h
  · decide
  · unfold State.SupervisionSound; decide
  · unfold State.RestartSound; decide

theorem witness_DisplayAndListsStaySound : (part .metering .green).DisplaySound ∧ listed.WaitingSound := by
  unfold State.DisplaySound State.WaitingSound; decide

theorem witness_SupplyLossAndReturn :
    (part .metering .green).resetting = false ∧ (part .metering .green).lamp.present = true
    ∧ State.reset.resetting = false ∧ State.reset.lamp.present = false
    ∧ (part .stopping .flush).rampState 0 = .stopping := by decide

/-- The rows of R138, and R156: a lane that the loss does not move shows both in either order; one that it moves has no conflict
when the loss is taken first. -/
theorem test_conflict_and_supply_loss_of_one_sample :
    let reached (r : RampState) (st : LaneState) :=
      (conflicting r st).modLane 0 fun x => { x with conflict := 15, conflictMark := .reached 1 }
    let lossFirst (s : State) := after (.conflictQualified 0) (after .supplyLoss s)
    let conflictFirst (s : State) := after .supplyLoss (after (.conflictQualified 0) s)
    let shown (s : State) := (s.faults.flag .conflict, s.faults.flag .supplyLoss)
    shown (lossFirst (reached .standby .dark)) = (true, true) ∧ shown (conflictFirst (reached .standby .dark)) = (true, true)
    ∧ shown (conflictFirst (reached .metering .green)) = (true, true)
    ∧ shown (lossFirst (reached .metering .green)) = (false, true)
    ∧ ((lossFirst (reached .metering .green)).lane 0).state = .supplyOut
    ∧ shown (lossFirst (reached .stopping .flush)) = (false, true)
    ∧ ((lossFirst (reached .stopping .flush)).lane 0).state = .dark
    ∧ ((lossFirst (reached .metering .green)).lane 0).conflict = 0 := by decide

/-- The condition that outlasts a loss counts again from the next sample, and after the return of the supply. -/
theorem test_conflict_counts_again_after_a_loss :
    let lost := after .supplyLoss (conflicting .stopping .flush)
    (lost.lane 0).conflict = 0 ∧ (lost.advance.lane 0).conflict = 1 ∧ (lost.advance.lane 0).conflictMark = .counting
    ∧ ((after .supplyReturn lost).lane 0).conflictMark = .counting := by decide

theorem witness_SupplyLossAndReturn_queue :
    let s := (part .stopping .flush).setChan 5 { channel (.queue 0) .active with queueTimer := 100, served := true }
    (s.chan 5).duty = .queue 0 ∧ s.rampState 0 = .stopping ∧ EveryLaneOut (after .supplyLoss s) 0
    ∧ ((after .supplyLoss s).chan 5).served = false ∧ (s.chan 6).duty ≠ .queue 0 := by
  unfold EveryLaneOut; decide

theorem witness_LampSettingsWrites :
    locked.hears = true ∧ locked.locks.timing = true ∧ State.reset.hears = true ∧ State.reset.locks.timing = false := by
  decide

theorem witness_InputLevels :
    (State.reset.chan 0).input ≠ true ∧ (State.reset.lane 0).ramp = none ∧ (part .metering .green).resetting = false
    ∧ ((part .metering .green).lane 0).ramp ≠ none
    ∧ ((part .metering .green).lane 0).sense ≠ { red := true, amber := false, green := false }
    ∧ State.reset.lamp.lsup ≠ true ∧ (after .pinReset State.reset).resetting = true := by decide

/-! ## Where an event's condition fails -/

/-- A reset in progress, in which no event changes anything (R163). -/
def inReset : State := after .pinReset State.reset

theorem witness_FullResetBeginsAndEnds_events :
    inReset.resetting = true ∧ isRequest (.grant 0) = false ∧ State.reset.resetting = false
    ∧ .grant 0 ∉ ([.powerUpReset, .pinReset, .clockLossReset, .resetEnd, .frameBegin, .shortFrame] : List Instr) := by
  decide

theorem witness_hosts_events_without_their_condition :
    inReset.resetting = true ∧ State.reset.sup.enable = false ∧ lostHost.sup.stage ≠ .present
    ∧ (supervised false 41 .present).sup.stage ≠ .one ∧ State.reset.unit.restartPending = false := by decide

theorem witness_channel_events_without_their_condition :
    let acquiring := withChannel { channel (.demand 0) .active with acquiring := true }
    let occupied := withChannel { channel (.mainline 0) .active with occupied := true }
    let served := withChannel { channel (.queue 0) .active with occupied := true, served := true }
    (State.reset.chan 5).state ≠ .active ∧ (acquiring.chan 5).acquiring = true ∧ (occupied.chan 5).occupied = true
    ∧ (occupied.chan 5).acquiring = false ∧ (acquiring.chan 5).occupied = false
    ∧ ((withChannel { channel (.queue 0) .active with silent := 0 }).chan 5).silent = 0
    ∧ (State.reset.boundRamp 5 = none) ∧ (served.chan 5).served = true
    ∧ ((withChannel (channel (.entry 0) .active)).chan 5).duty = .entry 0 := by decide

theorem witness_ramp_events_without_their_condition :
    State.reset.rampState 0 = .closed ∧ State.reset.rampState 0 ≠ .suspended ∧ State.reset.rampState 0 ≠ .metering
    ∧ (State.reset.ramp 0).ctl.override = none
    ∧ (((listed.setLane 0 (lane .green)).ramp 0).sched.waiting = [0])
    ∧ ((listed.setLane 0 (lane .green)).lane 0).state ≠ .redReady := by decide

theorem witness_lane_events_without_their_condition :
    (State.reset.lane 0).ramp = none ∧ (lane .green).settle = none ∧ ¬ ((lane .green).state = .redMin ∨ (lane .green).state = .redReady)
    ∧ (lane .redReady).redSuspect = false ∧ State.reset.lamp.lsup ≠ true
    ∧ ({ lane .redReady with sense := { red := true, amber := false, green := false } } : Lane).sense.red = true
    ∧ ({ lane .green with auxMark := true } : Lane).auxMark = true ∧ (lane .redReady).aspect = .red := by decide

/-! ## What an event's condition is formed from -/

/-- The two cases of the effective mode on a ramp in mode HOST and one in mode AUTO: at stage 0 they differ. -/
theorem witness_RampPlanAndMode_effective :
    let auto (s : State) := s.modCtl 0 fun x => { x with mode := .auto }
    lostHost.sup.stage = .one ∧ (lostHost.ramp 0).ctl.mode = .host ∧ (supervised false 41 .two).sup.stage = .two
    ∧ State.reset.sup.stage = .present ∧ (State.reset.ramp 0).ctl.mode = .host ∧ ((auto State.reset).ramp 0).ctl.mode = .auto := by
  decide

/-- A lane that may be on the list, one that has lost a clause of it, and a ramp with a watched channel occupied. -/
theorem witness_RampHearsItsLanes_calls :
    listed.calls 0 0 = true ∧ listed.calls 0 1 = false ∧ (part .suspended .redReady).calls 0 0 = false
    ∧ (listed.setLane 0 { lane .redReady with redSuspect := true }).calls 0 0 = false
    ∧ drained.calls 0 0 = false ∧ drained.watchedOccupied 0 = false
    ∧ (withChannel { channel (.queue 0) .active with occupied := true }).watchedOccupied 0 = true := by decide

/-- A step with a next state, of a state that keeps the invariants. -/
theorem witness_steps :
    step { part .metering .green with pending := [.rampStop 0] } = .next (after (.rampStop 0) (part .metering .green)) := rfl

theorem witness_GreenComesOnlyAfterRed :
    ((after (.grant 0) listed).lane 0).aspect = .green ∧ (listed.lane 0).aspect ≠ .green
    ∧ ((after (.amberExpiry 0) (part .metering .amber)).lane 0).aspect = .red
    ∧ ((after (.minRedExpiry 0) (part .suspended .redMin)).lane 0).aspect = .green := by decide

/-- With no command waiting, a lane whose min red has counted down to 0 on a SUSPENDED ramp goes to green. -/
theorem witness_GreenComesOnlyAfterRed_idle :
    let s := (part .suspended .redMin).modLane 0 fun x => { x with timer := 0, settle := some 20 }
    s.pending = [] ∧ (s.lane 0).state = .redMin ∧ s.due = [.minRedExpiry 0]
    ∧ ((after (.minRedExpiry 0) s).lane 0).aspect = .green := by decide

/-- The lane enters RED_READY by MIN_RED_EXPIRY, and with no command waiting at timer 0, as the one event due. -/
theorem witness_GreenComesOnlyAfterRed_ready :
    let s := (part .metering .redMin).modLane 0 fun x => { x with timer := 0, settle := some 20 }
    s.pending = [] ∧ (s.lane 0).timer = 0 ∧ s.due = [.minRedExpiry 0] ∧ (s.lane 0).state ≠ .redReady
    ∧ ((after (.minRedExpiry 0) s).lane 0).state = .redReady := by decide

end Sys2Proof.Tests
end

/-! # Detector channels: what hears a change of a channel, and the requests and events of chapter 1 -/

namespace Sys2Proof.Machine

/-! ## What a ramp forms anew -/

theorem reformed_congr {s t : State} (hr : t.rampState = s.rampState) (hl : t.lane = s.lane) (hc : t.chan = s.chan)
    (r : Fin 4) (x : Ramp) : x.reformed t r = x.reformed s r := by
  simp only [Ramp.reformed, calls_congr hr hl hc, emptyRuns_congr hr hl hc, watchedOccupied_congr hl hc, hr]

theorem someActive_congr {s t : State} (hc : t.chan = s.chan) : t.someActive = s.someActive := by
  funext d; simp only [State.someActive, hc]

theorem reformedEntry_congr {s t : State} (hr : t.rampState = s.rampState) (hl : t.lane = s.lane)
    (hc : t.chan = s.chan) (r : Fin 4) (x : Ramp) : x.reformedEntry t r = x.reformedEntry s r := by
  simp only [Ramp.reformedEntry, reformed_congr hr hl hc, someActive_congr hc, hr]

/-- The list that a ramp has formed anew is the list it forms again. -/
theorem reformed_reformed (s : State) (r : Fin 4) (x : Ramp) : (x.reformed s r).reformed s r = x.reformed s r := by
  have hmem : ∀ l, l ∈ (x.reformed s r).sched.waiting ↔ s.calls r l = true := by
    intro l
    simp only [Ramp.reformed, List.mem_append, List.mem_filter, List.mem_finRange, true_and, Bool.and_eq_true,
      Bool.not_eq_true', List.contains_eq_mem, decide_eq_false_iff_not]
    tauto
  have hkeep : (x.reformed s r).sched.waiting.filter (s.calls r) = (x.reformed s r).sched.waiting :=
    List.filter_eq_self.2 fun l hl => (hmem l).1 hl
  have hnew : (List.finRange 8).filter (fun l => s.calls r l && !(x.reformed s r).sched.waiting.contains l) = [] :=
    List.filter_eq_nil_iff.2 fun l _ => by
      have := hmem l
      simp only [Bool.and_eq_true, Bool.not_eq_true', List.contains_eq_mem, decide_eq_false_iff_not, not_and, not_not]
      exact this.2
  rw [Ramp.reformed, hkeep, hnew, List.append_nil]
  simp only [Ramp.reformed]
  cases s.emptyRuns r <;> simp

theorem reformedEntry_reformedEntry (s : State) (r : Fin 4) (x : Ramp) :
    (x.reformedEntry s r).reformedEntry s r = x.reformedEntry s r := by
  have h := reformed_reformed s r x
  simp only [Ramp.reformed, Ramp.mk.injEq, Scheduler.mk.injEq, Queue.mk.injEq, true_and, and_true] at h
  simp only [Ramp.reformedEntry, Ramp.reformed, Ramp.mk.injEq, Scheduler.mk.injEq, Queue.mk.injEq, true_and, and_true]
  exact h

/-- `refreshCalls`, ramp by ramp. -/
theorem refreshCalls_ramp (s : State) (r i : Fin 4) :
    (s.refreshCalls r).ramp i = if r = i then (s.ramp i).reformed s i else s.ramp i := by
  rw [refreshCalls_eq, State.setRamp_ramp]
  by_cases h : i = r
  · subst h; simp only [if_true]; rfl
  · simp only [if_neg h, if_neg (Ne.symm h)]

/-! ## What a change of a channel hands on -/

theorem formEntryDegraded_ramp (s : State) (r i : Fin 4) :
    (s.formEntryDegraded r).ramp i =
      if r = i then
        { s.ramp i with
          queue := { (s.ramp i).queue with entryDegraded := s.rampState i ≠ .closed && !s.someActive (.entry i) } }
      else s.ramp i := by
  simp only [State.formEntryDegraded, State.modQueue_eq, State.setRamp_ramp]
  by_cases h : i = r
  · subst h; simp only [if_true]
  · simp only [if_neg h, if_neg (Ne.symm h)]

@[simp] theorem formEntryDegraded_rampState (s : State) (r : Fin 4) :
    (s.formEntryDegraded r).rampState = s.rampState := setRamp_rampState rfl

/-- `hearChannel` writes ramps alone. -/
theorem hearChannel_frame (s : State) (b : Option (Fin 4)) :
    s.hearChannel b = { s with ramps := (s.hearChannel b).ramps } := by
  cases b <;> rfl

@[simp] theorem hearChannel_chan (s : State) (b : Option (Fin 4)) : (s.hearChannel b).chan = s.chan := by
  cases b <;> rfl
@[simp] theorem hearChannel_lane (s : State) (b : Option (Fin 4)) : (s.hearChannel b).lane = s.lane := by
  cases b <;> rfl
@[simp] theorem hearChannel_faults (s : State) (b : Option (Fin 4)) : (s.hearChannel b).faults = s.faults := by
  cases b <;> rfl
@[simp] theorem hearChannel_rampState (s : State) (b : Option (Fin 4)) : (s.hearChannel b).rampState = s.rampState := by
  cases b with
  | none => rfl
  | some r => simp only [State.hearChannel, refreshCalls_rampState, formEntryDegraded_rampState]

/-- What hears a channel's change forms its list, its timers and entry-degraded anew; the other ramps stand. -/
theorem hearChannel_ramp (s : State) (b : Option (Fin 4)) (i : Fin 4) :
    (s.hearChannel b).ramp i = if b = some i then (s.ramp i).reformedEntry s i else s.ramp i := by
  cases b with
  | none => rfl
  | some r =>
    simp only [State.hearChannel, refreshCalls_ramp, formEntryDegraded_ramp, Option.some.injEq]
    split
    · rw [reformed_congr (formEntryDegraded_rampState s r) rfl rfl]; rfl
    · rfl

/-- Two hearings of one change: each ramp named forms its parts anew once. -/
theorem hearChannel_hearChannel_ramp (s : State) (a b : Option (Fin 4)) (i : Fin 4) :
    ((s.hearChannel a).hearChannel b).ramp i =
      if a = some i ∨ b = some i then (s.ramp i).reformedEntry s i else s.ramp i := by
  have hcongr := reformedEntry_congr (hearChannel_rampState s a) (hearChannel_lane s a) (hearChannel_chan s a)
  simp only [hearChannel_ramp, hcongr]
  by_cases ha : a = some i <;> by_cases hb : b = some i <;> simp [ha, hb, reformedEntry_reformedEntry]

/-- A write of channel `c` alone, with what the register then holds, heard by the ramps that the channel served and serves,
is a change of that channel. -/
theorem channelChanged_of_heard {c : Fin 32} {s v t : State} (hv : v = { s with channels := v.channels, faults := v.faults })
    (hother : ∀ i, i ≠ c → v.chan i = s.chan i) (ht : t = { v with ramps := t.ramps })
    (hramp : ∀ i, t.ramp i =
      if s.boundRamp c = some i ∨ v.boundRamp c = some i then (v.ramp i).reformedEntry v i else v.ramp i) :
    ChannelChanged c s t := by
  have hchan : t.chan = v.chan := State.chan_congr (by rw [ht])
  have hlane : t.lane = v.lane := State.lane_congr (by rw [ht])
  have hvramp : v.ramp = s.ramp := State.ramp_congr (by rw [hv])
  have hstate : t.rampState = v.rampState := by
    funext i; simp only [State.rampState, hramp]; split <;> rfl
  have hbound : t.boundRamp = v.boundRamp := boundRamp_congr hlane hchan
  refine ⟨?_, fun i hi => by rw [hchan, hother i hi], fun i => ?_⟩
  · rw [ht, hv]
  · rw [hramp, hbound, reformedEntry_congr hstate hlane hchan, hvramp]

/-- A channel rewritten is a change of that channel alone, heard by the ramps it served and serves (R20). -/
theorem rewriteChannel_changed (s : State) (c : Fin 32) (x : Channel) : ChannelChanged c s (s.rewriteChannel c x) := by
  refine channelChanged_of_heard (v := s.setChan c x) rfl (fun i hi => State.setChan_chan_ne s c i x hi) ?_
    (hearChannel_hearChannel_ramp _ _ _)
  simp only [State.rewriteChannel]
  rw [hearChannel_frame, hearChannel_frame (s.setChan c x)]

@[simp] theorem rewriteChannel_chan (s : State) (c : Fin 32) (x : Channel) : (s.rewriteChannel c x).chan c = x := by
  simp [State.rewriteChannel]

@[simp] theorem rewriteChannel_faults (s : State) (c : Fin 32) (x : Channel) :
    (s.rewriteChannel c x).faults = s.faults := by
  simp [State.rewriteChannel]

/-! ## The requests of the channels -/

/-- A request that is heard answers with what its service leaves, and clears the arming mark. -/
theorem request_answered (serve : State → Served) {s : State} (h : s.hears = true) :
    request false serve s = .next ((serve s).state.answered (serve s).result (serve s).reply) :=
  request_heard false serve h

@[simp] theorem withChannel_byteOf (c : Fin 32) (serve : Fin 32 → State → Served) (s : State) :
    withChannel (byteOf c.val) serve s = serve c s := by simp [withChannel]

theorem withChannel_bad {b : Byte} (hb : 32 ≤ b.toNat) (serve : Fin 32 → State → Served) (s : State) :
    withChannel b serve s = refuse s .badId := by simp [withChannel, channelOf_bad hb]

/-- A request on a channel number above 31 is refused with BAD_ID (section 1.9). -/
theorem channelRequest_bad {b : Byte} (hb : 32 ≤ b.toNat) (serve : Fin 32 → State → Served) {s : State}
    (h : s.hears = true) : request false (withChannel b serve) s = .next (s.answered .badId) := by
  rw [request_answered _ h, withChannel_bad hb]; rfl

/-- A request on a channel is what its service answers. -/
theorem channelRequest_served (c : Fin 32) (serve : Fin 32 → State → Served) {s : State} (h : s.hears = true) :
    request false (withChannel (byteOf c.val) serve) s =
      .next ((serve c s).state.answered (serve c s).result (serve c s).reply) := by
  rw [request_answered _ h, withChannel_byteOf]

/-! ### DETECTOR CONFIGURE -/

theorem boundIndex_none {n : Nat} (index : Byte → Option (Fin n)) : boundIndex index 0xFF = .error .badValue := rfl

theorem boundIndex_bad {n : Nat} {index : Byte → Option (Fin n)} {b : Byte} (hb : b ≠ 0xFF) (hi : index b = none) :
    boundIndex index b = .error .badId := by
  rw [boundIndex, if_neg (show b ≠ noneByte from hb), hi]

theorem boundIndex_ramp (r : Fin 4) : boundIndex rampOf? (byteOf r.val) = .ok r := by revert r; decide
theorem boundIndex_lane (l : Fin 8) : boundIndex laneOf? (byteOf l.val) = .ok l := by revert l; decide

theorem dutyOf_undefined {role : Byte} (h : 5 < role.toNat) (binding : Byte) :
    dutyOf role binding = .error .badValue := by
  unfold dutyOf; split <;> first | omega | rfl

/-- Roles 1 to 3 are bound to a ramp. -/
theorem dutyOf_ramp {role : Byte} (h1 : 1 ≤ role.toNat) (h3 : role.toNat ≤ 3) (binding : Byte) :
    ∃ d : Fin 4 → Duty, dutyOf role binding = (boundIndex rampOf? binding).map d
      ∧ ∀ (s : State) r, s.dutyDefined (d r) = decide (s.rampState r ≠ .closed) := by
  obtain h | h | h : role.toNat = 1 ∨ role.toNat = 2 ∨ role.toNat = 3 := by omega
  · exact ⟨.mainline, by simp only [dutyOf, h], fun _ _ => rfl⟩
  · exact ⟨.entry, by simp only [dutyOf, h], fun _ _ => rfl⟩
  · exact ⟨.queue, by simp only [dutyOf, h], fun _ _ => rfl⟩

/-- Roles 4 and 5 are bound to a lane. -/
theorem dutyOf_lane {role : Byte} (h4 : 4 ≤ role.toNat) (h5 : role.toNat ≤ 5) (binding : Byte) :
    ∃ d : Fin 8 → Duty, dutyOf role binding = (boundIndex laneOf? binding).map d
      ∧ ∀ (s : State) l, s.dutyDefined (d l) = (s.lane l).ramp.isSome := by
  obtain h | h : role.toNat = 4 ∨ role.toNat = 5 := by omega
  · exact ⟨.demand, by simp only [dutyOf, h], fun _ _ => rfl⟩
  · exact ⟨.passage, by simp only [dutyOf, h], fun _ _ => rfl⟩

/-- The role and binding bytes of a duty spell it; role UNUSED takes any binding. -/
theorem dutyOf_bytes (d : Duty) (binding : Byte) (h : d ≠ .unused → binding = d.bindingByte) :
    dutyOf (byteOf d.role.code) binding = .ok d := by
  cases d with
  | unused => rfl
  | mainline r | entry r | queue r => rw [h (by simp)]; clear h; revert r; decide
  | demand l | passage l => rw [h (by simp)]; clear h; revert l; decide

theorem serveDetectorConfigure_parked {s : State} {c : Fin 32} (hp : (s.chan c).state = .parked) (role binding : Byte)
    (t : ChannelTimings) : serveDetectorConfigure role binding t c s = refuse s .parked := by
  simp [serveDetectorConfigure, hp]

theorem serveDetectorConfigure_error {s : State} {c : Fin 32} {role binding : Byte} {e : Result}
    (hp : (s.chan c).state ≠ .parked) (hd : dutyOf role binding = .error e) (t : ChannelTimings) :
    serveDetectorConfigure role binding t c s = refuse s e := by
  simp [serveDetectorConfigure, hp, hd]

theorem serveDetectorConfigure_undefined {s : State} {c : Fin 32} {role binding : Byte} {d : Duty}
    (hp : (s.chan c).state ≠ .parked) (hd : dutyOf role binding = .ok d) (hu : s.dutyDefined d = false)
    (t : ChannelTimings) : serveDetectorConfigure role binding t c s = refuse s .undefined := by
  simp [serveDetectorConfigure, hp, hd, hu]

theorem serveDetectorConfigure_accepted {s : State} {c : Fin 32} {role binding : Byte} {d : Duty}
    (hp : (s.chan c).state ≠ .parked) (hd : dutyOf role binding = .ok d) (hu : s.dutyDefined d = true)
    (t : ChannelTimings) :
    serveDetectorConfigure role binding t c s =
      acceptClamped (s.rewriteChannel c ((s.chan c).configure d t.clamp)) (t.clamp ≠ t) := by
  simp [serveDetectorConfigure, hp, hd, hu]

/-- The record that an accepted DETECTOR CONFIGURE leaves (R20). -/
theorem configure_eq (d : Duty) (t : ChannelTimings) (x : Channel) :
    x.configure d t =
      { Channel.fullReset x.input with
        duty := d, settle := t.settle, stuckOn := t.stuckOn, silent := t.silent, chatter := t.chatter
        state := if d = .unused then .unused else .active
        acquiring := decide (d ≠ .unused) } := by
  by_cases h : d = .unused <;> simp [Channel.configure, h, Channel.zeroDynamic, Channel.activate, Channel.fullReset]

/-- The result of a request whose operands are clamped is OK exactly when all were in range. -/
theorem clampedIf_timings (t : ChannelTimings) :
    clampedIf (t.clamp ≠ t) = takenIf
      (t.settle ≤ 10 ∧ (1 ≤ t.stuckOn ∧ t.stuckOn ≤ 30) ∧ t.silent ≤ 120 ∧ 3 ≤ t.chatter ∧ t.chatter ≤ 20) := by
  have h : t.clamp = t ↔
      t.settle ≤ 10 ∧ (1 ≤ t.stuckOn ∧ t.stuckOn ≤ 30) ∧ t.silent ≤ 120 ∧ 3 ≤ t.chatter ∧ t.chatter ≤ 20 := by
    cases t; simp only [ChannelTimings.clamp, ChannelTimings.mk.injEq, clampTo]; omega
  simp only [clampedIf, takenIf, ← h]
  by_cases e : t.clamp = t <;> simp [e]

/-- Settles O24: the checks of R19 in their order, and the record that R20 writes. -/
theorem detectorConfigure : Obligations.DetectorConfigure := by
  unfold Obligations.DetectorConfigure
  refine ⟨fun s b role binding settle stuckOn silent chatter hears => ⟨fun hb => channelRequest_bad hb _ hears, ?_⟩, ?_⟩
  · rintro c rfl
    have hrun := channelRequest_served c (serveDetectorConfigure role binding
      { settle := settle.toNat, stuckOn := stuckOn.toNat, silent := silent.toNat, chatter := chatter.toNat }) hears
    refine ⟨fun hp => ?_, fun hp => ⟨fun hr => ?_, fun hr hb => ?_, fun h1 h5 hb => ?_, ?_, ?_⟩⟩
    · exact hrun.trans (by rw [serveDetectorConfigure_parked hp]; rfl)
    · exact hrun.trans (by rw [serveDetectorConfigure_error hp (dutyOf_undefined hr binding)]; rfl)
    · have hd : dutyOf role binding = .error .badId := by
        obtain ⟨h1, h3, h⟩ | ⟨h4, h5, h⟩ := hr
        · obtain ⟨d, hd, -⟩ := dutyOf_ramp h1 h3 binding
          rw [hd, boundIndex_bad hb (rampOf_bad h)]; rfl
        · obtain ⟨d, hd, -⟩ := dutyOf_lane h4 h5 binding
          rw [hd, boundIndex_bad hb (laneOf_bad h)]; rfl
      exact hrun.trans (by rw [serveDetectorConfigure_error hp hd]; rfl)
    · have hd : dutyOf role binding = .error .badValue := by
        subst hb
        by_cases h3 : role.toNat ≤ 3
        · obtain ⟨d, hd, -⟩ := dutyOf_ramp h1 h3 0xFF
          rw [hd, boundIndex_none]; rfl
        · obtain ⟨d, hd, -⟩ := dutyOf_lane (by omega) h5 0xFF
          rw [hd, boundIndex_none]; rfl
      exact hrun.trans (by rw [serveDetectorConfigure_error hp hd]; rfl)
    · rintro r h1 h3 rfl hclosed
      obtain ⟨d, hd, hdef⟩ := dutyOf_ramp h1 h3 (byteOf r.val)
      rw [boundIndex_ramp] at hd
      exact hrun.trans (by rw [serveDetectorConfigure_undefined hp hd (by simp [hdef, hclosed])]; rfl)
    · rintro l h4 h5 rfl hnone
      obtain ⟨d, hd, hdef⟩ := dutyOf_lane h4 h5 (byteOf l.val)
      rw [boundIndex_lane] at hd
      exact hrun.trans (by rw [serveDetectorConfigure_undefined hp hd (by simp [hdef, hnone])]; rfl)
  · intro s c d binding settle stuckOn silent chatter hears hp hbinding hbound
    have hdef : s.dutyDefined d = true := by
      cases d <;> simp_all [State.dutyDefined, Option.isSome_iff_ne_none]
    let sent : ChannelTimings :=
      { settle := settle.toNat, stuckOn := stuckOn.toNat, silent := silent.toNat, chatter := chatter.toNat }
    refine ⟨s.rewriteChannel c ((s.chan c).configure d sent.clamp), (channelRequest_served c _ hears).trans ?_,
      rewriteChannel_changed s c _, rewriteChannel_faults s c _, ?_⟩
    · rw [serveDetectorConfigure_accepted hp (dutyOf_bytes d binding hbinding) hdef, acceptClamped_state,
        acceptClamped_result, clampedIf_timings]
      rfl
    · rw [rewriteChannel_chan, configure_eq]
      simp [sent, ChannelTimings.clamp, clampTo]

/-! ### DETECTOR PARK, UNPARK and RESTORE -/

/-- A request that rewrites a channel changes that channel alone, and leaves the Fault Register. -/
theorem channelRequest_rewrites {s : State} {c : Fin 32} {serve : Fin 32 → State → Served} {x : Channel}
    (h : s.hears = true) (hserve : serve c s = accept (s.rewriteChannel c x)) :
    ∃ t : State, request false (withChannel (byteOf c.val) serve) s = .next (t.answered .ok)
      ∧ ChannelChanged c s t ∧ t.faults = s.faults ∧ t.chan c = x :=
  ⟨s.rewriteChannel c x, (channelRequest_served c serve h).trans (by rw [hserve]; rfl), rewriteChannel_changed s c x,
    rewriteChannel_faults s c x, rewriteChannel_chan s c x⟩

/-- A request on a channel that is refused answers with that result. -/
theorem channelRequest_refused {s : State} {c : Fin 32} {serve : Fin 32 → State → Served} {e : Result}
    (h : s.hears = true) (hserve : serve c s = refuse s e) :
    request false (withChannel (byteOf c.val) serve) s = .next (s.answered e) :=
  (channelRequest_served c serve h).trans (by rw [hserve]; rfl)

/-- Settles O25, by the state of the channel. -/
theorem detectorParkUnparkRestore : Obligations.DetectorParkUnparkRestore := by
  intro s c h
  refine ⟨fun hstate => ?_, fun hstate => ⟨?_, ?_, ?_⟩, ?_, fun hstate => ⟨?_, ?_, ?_⟩, fun hstate => ⟨?_, ?_⟩, ?_,
    fun b hb => ⟨channelRequest_bad hb _ h, channelRequest_bad hb _ h, channelRequest_bad hb _ h⟩⟩
  · refine channelRequest_rewrites h ?_
    obtain hstate | ⟨k, hstate⟩ := hstate <;> simp only [serveDetectorPark, hstate] <;> rfl
  · exact (channelRequest_served c serveDetectorPark h).trans (by simp only [serveDetectorPark, hstate]; rfl)
  · exact channelRequest_refused h (by simp only [serveDetectorRestore, hstate])
  · exact channelRequest_rewrites h (by simp only [serveDetectorUnpark, hstate]; rfl)
  · rintro ⟨k, hstate⟩
    exact channelRequest_rewrites h (by simp only [serveDetectorRestore, hstate]; rfl)
  · exact channelRequest_refused h (by simp only [serveDetectorPark, hstate])
  · exact channelRequest_refused h (by simp only [serveDetectorUnpark, hstate])
  · exact channelRequest_refused h (by simp only [serveDetectorRestore, hstate])
  · exact channelRequest_refused h (by simp only [serveDetectorUnpark, hstate])
  · exact channelRequest_refused h (by simp only [serveDetectorRestore, hstate])
  · rintro ⟨k, hstate⟩
    exact channelRequest_refused h (by simp only [serveDetectorUnpark, hstate])

/-! ## The events of the channels -/

theorem isActive_iff (x : Channel) : x.isActive = true ↔ x.state = .active := by simp [Channel.isActive]

theorem rampRuns_iff (s : State) (r : Fin 4) :
    s.rampRuns r = true ↔ s.rampState r = .metering ∨ s.rampState r = .suspended := by simp [State.rampRuns]

theorem silenceRuns_iff (s : State) (c : Fin 32) :
    s.silenceRuns c = true ↔
      (s.chan c).state = .active ∧ (s.chan c).silent ≠ 0 ∧ ∃ r, s.boundRamp c = some r ∧ s.rampRuns r = true := by
  simp [State.silenceRuns, Channel.isActive, and_assoc, Option.any_eq_true]

/-- An event whose meaning leaves the state changes nothing. -/
theorem event_still {f : State → State} {s : State} (h : f s = s) : event f s = .next s := by simp [event, h]

/-! ### What the ramp served forms anew -/

/-- `refreshServed` writes ramps alone. -/
theorem refreshServed_frame (s : State) (c : Fin 32) :
    s.refreshServed c = { s with ramps := (s.refreshServed c).ramps } := by
  unfold State.refreshServed; split <;> rfl

@[simp] theorem refreshServed_chan (s : State) (c : Fin 32) : (s.refreshServed c).chan = s.chan := by
  rw [refreshServed_frame]; rfl
@[simp] theorem refreshServed_lane (s : State) (c : Fin 32) : (s.refreshServed c).lane = s.lane := by
  rw [refreshServed_frame]; rfl
@[simp] theorem refreshServed_rampState (s : State) (c : Fin 32) : (s.refreshServed c).rampState = s.rampState := by
  unfold State.refreshServed; split <;> simp

/-- The ramp that a channel serves forms its list and timers anew, as they then stand (R6, R18, R42). -/
theorem refreshServed_ramp (s : State) (c : Fin 32) (i : Fin 4) :
    (s.refreshServed c).ramp i =
      if s.boundRamp c = some i then (s.ramp i).reformed (s.refreshServed c) i else s.ramp i := by
  rw [reformed_congr (refreshServed_rampState s c) (refreshServed_lane s c) (refreshServed_chan s c)]
  unfold State.refreshServed
  split
  · next h => simp [h]
  · next r h => simp [h, refreshCalls_ramp]

theorem setChan_boundRamp {s : State} {c : Fin 32} {x : Channel} (hd : x.duty = (s.chan c).duty) :
    (s.setChan c x).boundRamp c = s.boundRamp c := by
  simp only [State.boundRamp, State.setChan_chan_self, hd]
  cases (s.chan c).duty <;> rfl

/-- A write of a channel with its duty kept, heard by the ramp it serves: the form of an edge and of an acquisition. -/
theorem setChan_refreshServed {s : State} {c : Fin 32} {x : Channel} (hd : x.duty = (s.chan c).duty) :
    let t := (s.setChan c x).refreshServed c
    t = { s with channels := t.channels, ramps := t.ramps } ∧ (∀ i, i ≠ c → t.chan i = s.chan i) ∧ t.chan c = x
      ∧ ∀ r, t.ramp r = if s.boundRamp c = some r then (s.ramp r).reformed t r else s.ramp r := by
  refine ⟨?_, fun i hi => ?_, ?_, fun r => ?_⟩
  · rw [refreshServed_frame]; rfl
  · rw [refreshServed_chan, State.setChan_chan_ne _ _ _ _ hi]
  · rw [refreshServed_chan, State.setChan_chan_self]
  · rw [refreshServed_ramp, setChan_boundRamp hd, State.setChan_ramp]

/-! ### The vehicle counted -/

/-- Counting a vehicle writes ramps alone. -/
theorem countVehicle_frame (s : State) (d : Duty) : s.countVehicle d = { s with ramps := (s.countVehicle d).ramps } := by
  have htally : ∀ r f, s.tally r f = { s with ramps := (s.tally r f).ramps } := by
    intro r f; unfold State.tally; split <;> rfl
  cases d with
  | entry r => exact htally r _
  | passage l => simp only [State.countVehicle]; split <;> [rfl; exact htally _ _]
  | unused => rfl
  | mainline r => rfl
  | queue r => rfl
  | demand l => rfl

theorem counts_iff (x : RampState) : x.counts = true ↔ x = .metering ∨ x = .stopping := by
  cases x <;> simp [RampState.counts]

theorem tally_ramp (s : State) (r i : Fin 4) (f : Queue → Queue) :
    (s.tally r f).ramp i =
      if r = i ∧ (s.rampState i = .metering ∨ s.rampState i = .stopping) then
        { s.ramp i with queue := f (s.ramp i).queue }
      else s.ramp i := by
  simp only [State.tally, ← counts_iff]
  by_cases h : r = i
  · subst h; by_cases hc : (s.rampState r).counts = true <;> simp [hc]
  · split <;> simp [h, State.setRamp_ramp, Ne.symm h]

/-- The vehicle is counted by the queue part of the ramp alone (R34, R37). -/
theorem countVehicle_ramp (s : State) (d : Duty) (i : Fin 4) :
    (s.countVehicle d).ramp i =
      { s.ramp i with queue := (s.ramp i).queue.afterActuation d (s.rampOfDuty d) (s.rampState i) i } := by
  by_cases hs : s.rampState i = .metering ∨ s.rampState i = .stopping
  · cases d with
    | entry r =>
      by_cases h : r = i <;> simp [State.countVehicle, tally_ramp, Queue.afterActuation, hs, h, Queue.enter, satAdd]
    | passage l =>
      cases hl : (s.lane l).ramp with
      | none => simp [State.countVehicle, Queue.afterActuation, State.rampOfDuty, hl]
      | some r =>
        by_cases h : r = i <;>
          simp [State.countVehicle, tally_ramp, Queue.afterActuation, State.rampOfDuty, hs, hl, h, Queue.leave, satAdd]
    | unused => simp [State.countVehicle, Queue.afterActuation]
    | mainline r => simp [State.countVehicle, Queue.afterActuation]
    | queue r => simp [State.countVehicle, Queue.afterActuation]
    | demand l => simp [State.countVehicle, Queue.afterActuation]
  · have hstill : (s.countVehicle d).ramp i = s.ramp i := by
      cases d with
      | entry r => simp [State.countVehicle, tally_ramp, hs]
      | passage l => simp only [State.countVehicle]; split <;> simp [tally_ramp, hs]
      | unused => rfl
      | mainline r => rfl
      | queue r => rfl
      | demand l => rfl
    simp [hstill, Queue.afterActuation, hs]

/-- A ramp that the channel does not serve counts no vehicle of it. -/
theorem afterActuation_unserved {s : State} {d : Duty} {r : Fin 4} (h : s.rampOfDuty d ≠ some r) (x : RampState)
    (q : Queue) : q.afterActuation d (s.rampOfDuty d) x r = q := by
  cases d <;> simp_all [Queue.afterActuation, State.rampOfDuty]

/-! ### Supervision faults -/

/-- A channel that fails is changed alone, also where its own record was written first with its duty kept (R14). -/
theorem failChannel_changed {s u : State} {c : Fin 32} (kind : ChannelFault)
    (hu : u = { s with channels := u.channels }) (hother : ∀ i, i ≠ c → u.chan i = s.chan i)
    (hduty : (u.chan c).duty = (s.chan c).duty) : ChannelChanged c s (u.failChannel c kind) := by
  have hlane : u.lane = s.lane := State.lane_congr (by rw [hu])
  have hbound : u.boundRamp c = s.boundRamp c := by
    simp only [State.boundRamp, hduty]; cases (s.chan c).duty <;> simp only [State.rampOfDuty, hlane]
  refine channelChanged_of_heard
    (v := raise kind.kind .detector c.val (u.chan c).duty.role.code (u.setChan c ((u.chan c).fail kind))) ?_ ?_ ?_ ?_
  · rw [hu]; rfl
  · intro i hi; rw [raise_chan, State.setChan_chan_ne _ _ _ _ hi, hother i hi]
  · exact hearChannel_frame _ _
  · intro i
    have hfailed : (raise kind.kind .detector c.val (u.chan c).duty.role.code
        (u.setChan c ((u.chan c).fail kind))).boundRamp c = s.boundRamp c := by
      rw [← hbound]; exact setChan_boundRamp rfl
    simp only [State.failChannel, State.modChan_eq, hearChannel_ramp, hfailed, hbound, or_self]

@[simp] theorem failChannel_chan (s : State) (c : Fin 32) (kind : ChannelFault) :
    (s.failChannel c kind).chan c = (s.chan c).fail kind := by
  simp [State.failChannel]

@[simp] theorem failChannel_faults (s : State) (c : Fin 32) (kind : ChannelFault) :
    (s.failChannel c kind).faults = s.faults.onset
      { kind := kind.kind, object := .detector, index := c.val, detail := (s.chan c).duty.role.code
        uptime := s.unit.uptime } := by
  simp [State.failChannel]

/-! ### ACTUATION -/

/-- The part after an actuation has been counted and heard, before the chatter check (R6). -/
def State.actuated (s : State) (c : Fin 32) : State :=
  ((s.setChan c (s.chan c).actuate).countVehicle (s.chan c).duty).refreshServed c

theorem actuated_frame (s : State) (c : Fin 32) :
    s.actuated c = { s with channels := (s.actuated c).channels, ramps := (s.actuated c).ramps } := by
  rw [State.actuated, refreshServed_frame, countVehicle_frame]; rfl

theorem actuated_chan (s : State) (c : Fin 32) : (s.actuated c).chan = (s.setChan c (s.chan c).actuate).chan := by
  rw [State.actuated, refreshServed_chan, countVehicle_frame]; rfl

theorem actuated_ramp (s : State) (c : Fin 32) (r : Fin 4) :
    (s.actuated c).ramp r =
      if s.boundRamp c = some r then
        ({ s.ramp r with queue :=
          (s.ramp r).queue.afterActuation (s.chan c).duty (s.boundRamp c) (s.rampState r) r } : Ramp).reformed
            (s.actuated c) r
      else s.ramp r := by
  have hbound : ((s.setChan c (s.chan c).actuate).countVehicle (s.chan c).duty).boundRamp c = s.boundRamp c := by
    rw [countVehicle_frame]; exact setChan_boundRamp rfl
  rw [State.actuated, refreshServed_ramp, hbound, countVehicle_ramp]
  split
  · rfl
  · next h =>
    have hq := afterActuation_unserved (s := s.setChan c (s.chan c).actuate) h (s.rampState r) (s.ramp r).queue
    exact congrArg (fun q => { s.ramp r with queue := q }) hq

/-- An actuation is counted and heard, and above the chatter limit the channel then fails (R13). -/
theorem actuate_eq (s : State) (c : Fin 32) :
    s.actuate c =
      if (s.chan c).chatter < (s.chan c).windowCount + 1 then (s.actuated c).failChannel c .chatter
      else s.actuated c := by
  have h : (s.actuated c).chan c = (s.chan c).actuate := by rw [actuated_chan, State.setChan_chan_self]
  have h' : s.actuate c =
      if ((s.actuated c).chan c).chatter < ((s.actuated c).chan c).windowCount then (s.actuated c).failChannel c .chatter
      else s.actuated c := rfl
  rw [h', h]; rfl

theorem exec_actuation {s : State} {c : Fin 32} (hs : s.resetting = false) (hactive : (s.chan c).state = .active)
    (hacq : (s.chan c).acquiring = false) (hocc : (s.chan c).occupied = false) :
    exec (.actuation c) s = .next (s.actuate c) :=
  (event_running _ hs).trans (by simp [Channel.isActive, hactive, hacq, hocc])

/-- Settles O26: the count and its hearing, then the chatter check on what they leave. -/
theorem actuationCounts : Obligations.ActuationCounts := by
  refine ⟨fun s c hs hactive hacq hocc => ⟨s.actuated c, actuated_frame s c, ?_, ?_, actuated_ramp s c, ?_, ?_⟩, ?_⟩
  · intro i hi; rw [actuated_chan, State.setChan_chan_ne _ _ _ _ hi]
  · rw [actuated_chan, State.setChan_chan_self]; rfl
  · intro h; rw [exec_actuation hs hactive hacq hocc, actuate_eq, if_neg (by omega)]
  · intro h
    refine ⟨(s.actuated c).failChannel c .chatter, ?_, failChannel_changed .chatter rfl (fun _ _ => rfl) rfl,
      failChannel_chan _ c _, ?_⟩
    · rw [exec_actuation hs hactive hacq hocc, actuate_eq, if_pos h]
    · rw [failChannel_faults, actuated_chan, State.setChan_chan_self, actuated_frame]; rfl
  · rintro s c (hs | h | h | h)
    · exact event_resetting _ hs
    all_goals exact event_still (by simp [Channel.isActive, h])

/-! ### The edges, the acquisition and the expiries -/

/-- Settles O27. -/
theorem fallingEdgeAndAcquisition : Obligations.FallingEdgeAndAcquisition := by
  refine ⟨fun s c hs hactive => ⟨fun hacq hocc => ?_, fun hacq => ?_⟩, fun s c => ⟨?_, ?_⟩⟩
  · refine ⟨_, (event_running _ hs).trans ?_, setChan_refreshServed (x := (s.chan c).release) rfl⟩
    simp [Channel.isActive, hactive, hacq, hocc]
  · refine ⟨_, (event_running _ hs).trans ?_, setChan_refreshServed (x := (s.chan c).acquire) rfl⟩
    simp [Channel.isActive, hactive, hacq]
  · rintro (hs | h | h | h)
    · exact event_resetting _ hs
    all_goals exact event_still (by simp [Channel.isActive, h])
  · rintro (hs | h | h)
    · exact event_resetting _ hs
    all_goals exact event_still (by simp [Channel.isActive, h])

/-- A channel whose own record is written with its duty kept, and which then fails: the form of an expiry. -/
theorem setChan_failChannel {s : State} {c : Fin 32} {x : Channel} (kind : ChannelFault)
    (hd : x.duty = (s.chan c).duty) :
    let t := (s.setChan c x).failChannel c kind
    ChannelChanged c s t ∧ t.chan c = x.fail kind
      ∧ t.faults = s.faults.onset
        { kind := kind.kind, object := .detector, index := c.val, detail := (s.chan c).duty.role.code
          uptime := s.unit.uptime } := by
  refine ⟨failChannel_changed kind rfl (fun i hi => State.setChan_chan_ne _ _ _ _ hi) ?_, ?_, ?_⟩
  · rw [State.setChan_chan_self, hd]
  · rw [failChannel_chan, State.setChan_chan_self]
  · rw [failChannel_faults, State.setChan_chan_self, hd]; rfl

/-- Settles O28. -/
theorem detectorSupervisionFaults : Obligations.DetectorSupervisionFaults := by
  refine ⟨fun s c hs hactive => ⟨?_, fun hocc => ?_, fun hsilent hbound => ?_⟩, fun s c => ⟨?_, ?_, ?_⟩⟩
  · exact (event_running _ hs).trans (by simp [Channel.isActive, hactive])
  · refine ⟨_, (event_running _ hs).trans ?_, setChan_failChannel .stuckOn
      (x := { s.chan c with continuousOn := (s.chan c).stuckOn * 6000 }) rfl⟩
    simp [Channel.isActive, hactive, hocc]
  · have hruns : s.silenceRuns c = true := by
      simpa only [silenceRuns_iff, rampRuns_iff] using ⟨hactive, hsilent, hbound⟩
    refine ⟨_, (event_running _ hs).trans ?_, setChan_failChannel .silent
      (x := { s.chan c with silence := (s.chan c).silent * 6000 }) rfl⟩
    simp [hruns]
  · rintro (hs | h)
    · exact event_resetting _ hs
    · exact event_still (by simp [Channel.isActive, h])
  · rintro (hs | h | h)
    · exact event_resetting _ hs
    all_goals exact event_still (by simp [Channel.isActive, h])
  · rintro (hs | h)
    · exact event_resetting _ hs
    · have hstill : s.silenceRuns c = false := by
        rw [← Bool.not_eq_true, silenceRuns_iff]
        rintro ⟨hactive, hsilent, r, hr, hruns⟩
        obtain h | h | h := h
        · exact h hactive
        · exact hsilent h
        · simp [rampRuns_iff, h r hr] at hruns
      exact event_still (by simp [hstill])

end Sys2Proof.Machine

/-! # The part's own time: what is due, and 10 ms of every record -/

namespace Sys2Proof.Machine

/-! ## What the conditions of the timers read -/

theorem queueRuns_iff (s : State) (c : Fin 32) (r : Fin 4) :
    s.queueRuns c r = true ↔
      (s.chan c).state = .active ∧ (s.chan c).duty = .queue r ∧ (s.chan c).occupied = true ∧ (s.chan c).served = false
        ∧ (s.rampState r = .metering ∨ s.rampState r = .stopping) := by
  simp [State.queueRuns, isActive_iff, counts_iff, and_assoc]

theorem settled_iff (x : Lane) : x.settled = true ↔ x.ramp = none ∨ x.settle = none ∨ x.settle = some 0 := by
  simp [Lane.settled, or_assoc]

theorem isRed_iff (x : Lane) : x.isRed = true ↔ x.state = .redMin ∨ x.state = .redReady := by
  unfold Lane.isRed; cases x.state <;> simp [LaneState.aspect]

theorem isReached_iff (m : ConflictMark) : m.isReached = true ↔ ∃ detail, m = .reached detail := by
  cases m <;> simp [ConflictMark.isReached]

theorem redDoubted_iff (s : State) (l : Fin 8) :
    s.redDoubted l = true ↔
      (s.lane l).ramp ≠ none ∧ ((s.lane l).state = .redMin ∨ (s.lane l).state = .redReady)
        ∧ (s.lane l).settled = true ∧ (s.lane l).redSuspect = false ∧ s.lamp.lsup = true
        ∧ (s.lane l).sense.red = false := by
  simp [State.redDoubted, isRed_iff, and_assoc, Option.isSome_iff_ne_none]

theorem canRecheck_iff (s : State) (l : Fin 8) :
    s.canRecheck l = true ↔ s.lamp.lsup = true ∧ (s.lane l).settled = true := by simp [State.canRecheck]

theorem auxDark_iff (x : Lane) :
    x.auxDark = true ↔ x.aspect = .amber ∧ x.sense.amber = false ∨ x.aspect = .green ∧ x.sense.green = false := by
  unfold Lane.auxDark; cases x.aspect <;> simp

theorem auxDoubted_iff (s : State) (l : Fin 8) :
    s.auxDoubted l = true ↔
      ((s.lane l).aspect = .amber ∧ (s.lane l).sense.amber = false
          ∨ (s.lane l).aspect = .green ∧ (s.lane l).sense.green = false)
        ∧ (s.lane l).auxMark = false ∧ (s.lane l).settled = true ∧ s.lamp.lsup = true := by
  simp [State.auxDoubted, auxDark_iff, and_assoc]

theorem exists_head_iff {P : Fin 8 → Prop} (w : List (Fin 8)) :
    (∃ l, w.head? = some l ∧ P l) ↔ ∃ l rest, w = l :: rest ∧ P l := by
  cases w <;> simp

/-! ## What is due -/

theorem mem_dueOfPart (s : State) (e : Instr) :
    e ∈ s.dueOfPart ↔
      (s.lamp.present = true ∧ s.lamp.lsup = false ∧ 10 ≤ s.lamp.supplyTimer) ∧ e = .supplyLoss
      ∨ (s.lamp.present = false ∧ s.lamp.lsup = true ∧ 200 ≤ s.lamp.supplyTimer) ∧ e = .supplyReturn
      ∨ (s.sup.enable = true ∧ s.sup.stage = .present ∧ s.sup.t1 * 10 ≤ s.sup.timer) ∧ e = .stage1Onset
      ∨ (s.sup.enable = true ∧ s.sup.stage = .one ∧ (s.sup.t1 + s.sup.t2) * 10 ≤ s.sup.timer) ∧ e = .stage2Onset := by
  simp only [State.dueOfPart, List.mem_append, mem_dueIf, Bool.and_eq_true, Bool.not_eq_true', decide_eq_true_eq,
    and_assoc, or_assoc]

theorem mem_dueOfChannel (s : State) (c : Fin 32) (e : Instr) :
    e ∈ s.dueOfChannel c ↔
      (((s.chan c).state = .active ∧ (s.chan c).settle ≤ (s.chan c).qualification)
        ∧ (s.chan c).acquiring = false ∧ (s.chan c).input = true ∧ (s.chan c).occupied = false) ∧ e = .actuation c
      ∨ (((s.chan c).state = .active ∧ (s.chan c).settle ≤ (s.chan c).qualification)
        ∧ (s.chan c).acquiring = false ∧ (s.chan c).input = false ∧ (s.chan c).occupied = true)
        ∧ e = .qualifiedFallingEdge c
      ∨ (((s.chan c).state = .active ∧ (s.chan c).settle ≤ (s.chan c).qualification) ∧ (s.chan c).acquiring = true)
        ∧ e = .acquisition c
      ∨ ((s.chan c).state = .active ∧ (s.chan c).occupied = true ∧ (s.chan c).stuckOn * 6000 ≤ (s.chan c).continuousOn)
        ∧ e = .stuckOnExpiry c
      ∨ ((s.chan c).state = .active ∧ (s.chan c).silent ≠ 0 ∧ (∃ r, s.boundRamp c = some r ∧ s.rampRuns r = true)
        ∧ (s.chan c).silent * 6000 ≤ (s.chan c).silence) ∧ e = .silenceExpiry c
      ∨ ((s.chan c).state = .active ∧ 100 ≤ (s.chan c).windowPhase) ∧ e = .chatterWindowEnd c
      ∨ (∃ r, (s.chan c).duty = .queue r ∧ (s.chan c).state = .active ∧ (s.chan c).occupied = true
          ∧ (s.chan c).served = false ∧ (s.rampState r = .metering ∨ s.rampState r = .stopping)
          ∧ (s.ramp r).queue.queueCheck * 10 ≤ (s.chan c).queueTimer) ∧ e = .queueCorrection c := by
  cases hd : (s.chan c).duty <;>
    simp [State.dueOfChannel, mem_dueIf, isActive_iff, silenceRuns_iff, queueRuns_iff, hd, and_assoc]

theorem mem_dueOfRamp (s : State) (r : Fin 4) (e : Instr) :
    e ∈ s.dueOfRamp r ↔
      (s.emptyRuns r = true ∧ (s.ramp r).queue.armed = true
        ∧ (s.ramp r).queue.emptyCheck * 10 ≤ (s.ramp r).queue.emptyTimer) ∧ e = .emptyCorrection r
      ∨ (s.rampState r ≠ .closed ∧ (s.ramp r).ctl.interval * 10 ≤ (s.ramp r).ctl.elapsed) ∧ e = .intervalClose r
      ∨ (∃ o, (s.ramp r).ctl.override = some o ∧ 6000 ≤ o.run) ∧ e = .overrideExpiry r
      ∨ (s.rampState r = .suspended ∧ ∃ o, (s.ramp r).ctl.suspension = some o ∧ 6000 ≤ o.run)
        ∧ e = .suspensionExpiry r
      ∨ (s.rampState r = .metering ∧ (s.ramp r).ctl.holdOff ≠ 0 ∧ 100 ≤ (s.ramp r).ctl.holdOffRun) ∧ e = .holdOffEnd r
      ∨ (s.rampState r = .metering ∧ (s.ramp r).rate.headway ≤ (s.ramp r).sched.sinceGrant
        ∧ ∃ l rest, (s.ramp r).sched.waiting = l :: rest ∧ (s.lane l).state = .redReady) ∧ e = .grant r := by
  simp only [State.dueOfRamp, List.mem_append, mem_dueIf, Bool.and_eq_true, decide_eq_true_eq, Option.any_eq_true,
    exists_head_iff, Ramp.ready, State.rampState, and_assoc, or_assoc]

theorem mem_dueOfLane (s : State) (l : Fin 8) (e : Instr) :
    e ∈ s.dueOfLane l ↔
      ((s.lane l).state = .proving ∧ (s.lane l).sense = .dark ∧ 100 ≤ (s.lane l).clearRun) ∧ e = .provingClear l
      ∨ ((s.lane l).state = .proving ∧ (s.lane l).provingLeft = 0) ∧ e = .provingWindowEnd l
      ∨ ((s.lane l).state = .starting ∧ (s.lane l).timer = 0) ∧ e = .startAmberExpiry l
      ∨ ((s.lane l).state = .redMin ∧ (s.lane l).timer = 0) ∧ e = .minRedExpiry l
      ∨ ((s.lane l).state = .green ∧ (s.lane l).timer = 0) ∧ e = .greenExpiry l
      ∨ ((s.lane l).state = .amber ∧ (s.lane l).timer = 0) ∧ e = .amberExpiry l
      ∨ ((s.lane l).state = .flush ∧ (s.lane l).timer = 0) ∧ e = .flushExpiry l
      ∨ (s.lane l).settle = some 0 ∧ e = .senseSettleEnd l
      ∨ s.redDoubted l = true ∧ e = .redSuspectOnset l
      ∨ ((s.lane l).redSuspect = true ∧ (s.lane l).recheck = 0 ∧ s.canRecheck l = true) ∧ e = .redRecheck l
      ∨ (∃ detail, (s.lane l).conflictMark = .reached detail) ∧ e = .conflictQualified l
      ∨ s.auxDoubted l = true ∧ e = .auxLampOut l := by
  simp only [State.dueOfLane, List.mem_append, mem_dueIf, Bool.and_eq_true, decide_eq_true_eq, isReached_iff,
    and_assoc, or_assoc]

/-- Any one of the events due may be chosen, and nothing else is (R172). -/
theorem choose_mem (n : Nat) (first : Instr) (rest : List Instr) : choose n first rest ∈ first :: rest := by
  cases rest with
  | nil => exact List.mem_singleton.2 rfl
  | cons second rest =>
    have hlt : Config.arbiter n % (rest.length + 2) < (first :: second :: rest).length := Nat.mod_lt _ (by omega)
    rw [choose, List.getElem?_eq_getElem hlt]
    exact List.getElem_mem hlt

/-- With no command waiting, a step takes the one event due, any one of several, or lets 10 ms pass. -/
theorem step_idle {s : State} (hp : s.pending = []) :
    (s.due = [] → step s = .next s.advance)
    ∧ (∀ e, s.due = [e] → step s = exec e s)
    ∧ (2 ≤ s.due.length → ∃ e ∈ s.due, step s = exec e { s with choices := s.choices + 1 }) := by
  have hstep : step s = idle s := by rw [step, hp]
  rw [hstep, idle]
  match s.due with
  | [] => simp
  | [only] => simp
  | first :: second :: rest => exact ⟨by simp, by simp, fun _ => ⟨_, choose_mem _ _ _, rfl⟩⟩

section Due
variable {s : State} (hs : s.resetting = false)
include hs

/-- A channel's events are due where that channel has them due. -/
theorem channel_due (c : Fin 32) {e : Instr} (he : e ∈ [.actuation c, .qualifiedFallingEdge c, .acquisition c,
    .stuckOnExpiry c, .silenceExpiry c, .chatterWindowEnd c, .queueCorrection c]) : e ∈ s.due ↔ e ∈ s.dueOfChannel c := by
  simp only [List.mem_cons, List.not_mem_nil, or_false] at he
  rw [mem_due hs]
  rcases he with rfl | rfl | rfl | rfl | rfl | rfl | rfl <;>
    simp [mem_dueOfPart, mem_dueOfChannel, mem_dueOfRamp, mem_dueOfLane]

/-- A ramp's events are due where that ramp has them due. -/
theorem ramp_due (r : Fin 4) {e : Instr} (he : e ∈ [.emptyCorrection r, .intervalClose r, .overrideExpiry r,
    .suspensionExpiry r, .holdOffEnd r, .grant r]) : e ∈ s.due ↔ e ∈ s.dueOfRamp r := by
  simp only [List.mem_cons, List.not_mem_nil, or_false] at he
  rw [mem_due hs]
  rcases he with rfl | rfl | rfl | rfl | rfl | rfl <;>
    simp [mem_dueOfPart, mem_dueOfChannel, mem_dueOfRamp, mem_dueOfLane]

/-- A lane's events are due where that lane has them due. -/
theorem lane_due (l : Fin 8) {e : Instr} (he : e ∈ [.provingClear l, .provingWindowEnd l, .startAmberExpiry l,
    .minRedExpiry l, .greenExpiry l, .amberExpiry l, .flushExpiry l, .senseSettleEnd l, .redSuspectOnset l,
    .redRecheck l, .conflictQualified l, .auxLampOut l]) : e ∈ s.due ↔ e ∈ s.dueOfLane l := by
  simp only [List.mem_cons, List.not_mem_nil, or_false] at he
  rw [mem_due hs]
  rcases he with rfl | rfl | rfl | rfl | rfl | rfl | rfl | rfl | rfl | rfl | rfl | rfl <;>
    simp [mem_dueOfPart, mem_dueOfChannel, mem_dueOfRamp, mem_dueOfLane]

/-- The events of the part as a whole are due where it has them due. -/
theorem part_due {e : Instr} (he : e ∈ [.supplyLoss, .supplyReturn, .stage1Onset, .stage2Onset]) :
    e ∈ s.due ↔ e ∈ s.dueOfPart := by
  simp only [List.mem_cons, List.not_mem_nil, or_false] at he
  rw [mem_due hs]
  rcases he with rfl | rfl | rfl | rfl <;>
    simp [mem_dueOfPart, mem_dueOfChannel, mem_dueOfRamp, mem_dueOfLane]

/-- What falls due is an event of the timers: no request, no reset, no event of the link and no change of a pin. -/
theorem due_is_timed {e : Instr} (he : e ∈ s.due) : isRequest e = false
    ∧ e ∉ [.commandRestart, .powerUpReset, .pinReset, .clockLossReset, .resetEnd, .frameBegin, .shortFrame]
    ∧ (∀ c high, e ≠ .detectorInputChange c high) ∧ (∀ l red amber green, e ≠ .lampSenseChange l red amber green)
    ∧ ∀ high, e ≠ .lampSupplyInputChange high := by
  rw [mem_due hs] at he
  obtain he | ⟨c, he⟩ | ⟨r, he⟩ | ⟨l, he⟩ := he
  · rw [mem_dueOfPart] at he
    obtain ⟨-, rfl⟩ | ⟨-, rfl⟩ | ⟨-, rfl⟩ | ⟨-, rfl⟩ := he <;> exact ⟨rfl, by simp, by simp, by simp, by simp⟩
  · rw [mem_dueOfChannel] at he
    obtain ⟨-, rfl⟩ | ⟨-, rfl⟩ | ⟨-, rfl⟩ | ⟨-, rfl⟩ | ⟨-, rfl⟩ | ⟨-, rfl⟩ | ⟨-, rfl⟩ := he <;>
      exact ⟨rfl, by simp, by simp, by simp, by simp⟩
  · rw [mem_dueOfRamp] at he
    obtain ⟨-, rfl⟩ | ⟨-, rfl⟩ | ⟨-, rfl⟩ | ⟨-, rfl⟩ | ⟨-, rfl⟩ | ⟨-, rfl⟩ := he <;>
      exact ⟨rfl, by simp, by simp, by simp, by simp⟩
  · rw [mem_dueOfLane] at he
    obtain ⟨-, rfl⟩ | ⟨-, rfl⟩ | ⟨-, rfl⟩ | ⟨-, rfl⟩ | ⟨-, rfl⟩ | ⟨-, rfl⟩ | ⟨-, rfl⟩ | ⟨-, rfl⟩ | ⟨-, rfl⟩
      | ⟨-, rfl⟩ | ⟨-, rfl⟩ | ⟨-, rfl⟩ := he <;> exact ⟨rfl, by simp, by simp, by simp, by simp⟩

end Due

/-- Settles O2: the choice of `idle`, and each event's own condition by the record it belongs to. -/
theorem idleStepTakesADueEvent : Obligations.IdleStepTakesADueEvent := by
  refine ⟨fun s hp => step_idle hp, fun s hs => due_resetting hs, fun s hs =>
    ⟨fun c => ?_, fun r => ?_, fun l => ?_, ?_, ?_, ?_, ?_, fun e he => due_is_timed hs he⟩⟩
  · refine ⟨?_, ?_, ?_, ?_, ?_, ?_, ?_⟩ <;> exact (channel_due hs c (by simp)).trans (by simp [mem_dueOfChannel])
  · refine ⟨?_, ?_, ?_, ?_, ?_, ?_⟩ <;> exact (ramp_due hs r (by simp)).trans (by simp [mem_dueOfRamp])
  · refine ⟨?_, ?_, ?_, ?_, ?_, ?_, ?_, ?_, ?_, ?_, ?_, ?_⟩ <;>
      exact (lane_due hs l (by simp)).trans
        (by simp [mem_dueOfLane, redDoubted_iff, canRecheck_iff, auxDoubted_iff, settled_iff])
  all_goals exact (part_due hs (by simp)).trans (by simp [mem_dueOfPart])

end Sys2Proof.Machine

/-! ## 10 ms of the part -/

namespace Sys2Proof.Machine

/-! ### The records of the part as a whole -/

/-- 10 ms of the uptime: the second run on, or the next second, up to the largest uptime (R163). -/
theorem ResetUnit.sample_eq (x : ResetUnit) :
    x.sample =
      { x with
        uptime := if x.uptimeRun + 1 < 100 then x.uptime else min (x.uptime + 1) 4294967295
        uptimeRun := if x.uptimeRun + 1 < 100 then x.uptimeRun + 1 else 0 } := by
  unfold ResetUnit.sample; split <;> rfl

/-- 10 ms of the lamp supply: its timer runs while LSUP differs from the supply state (R143, R144). -/
theorem LampUnit.sample_eq (x : LampUnit) :
    x.sample =
      { x with
        supplyTimer := if x.lsup = x.present then 0 else min (if x.present then 10 else 200) (x.supplyTimer + 1) } := by
  unfold LampUnit.sample
  cases x.present <;> cases x.lsup <;> rfl

/-- A tick of the supervision timer, which stands at 0 with supervision off (R157). -/
theorem Supervision.sample_eq (tick : Bool) (x : Supervision) :
    x.sample tick =
      { x with
        timer := if x.enable = false then 0 else if tick then min ((x.t1 + x.t2) * 10) (x.timer + 1) else x.timer
        keptAlive := false } := by
  unfold Supervision.sample; cases x.enable <;> rfl

/-! ### A channel -/

theorem comparing_iff (x : Channel) :
    x.comparing = true ↔ x.state = .active ∧ (x.acquiring = true ∨ x.input ≠ x.occupied) := by
  simp [Channel.comparing, isActive_iff]

/-- Everything 10 ms do to a channel, on-time apart (R4, R5, R11 to R13, R40). -/
theorem sampleChannel_eq (s : State) (tick : Bool) (c : Fin 32) :
    let x := s.chan c
    s.sampleChannel tick c x =
      { x with
        qualification :=
          if x.state = .active ∧ (x.acquiring = true ∨ x.input ≠ x.occupied) then min 10 (x.qualification + 1) else 0
        onTime := (s.sampleChannel tick c x).onTime
        continuousOn :=
          if x.state = .active ∧ x.occupied = true then min (x.stuckOn * 6000) (x.continuousOn + 1) else x.continuousOn
        silence :=
          if x.state = .active ∧ x.silent ≠ 0 ∧ (∃ r, s.boundRamp c = some r ∧ s.rampRuns r = true) then
            min (x.silent * 6000) (x.silence + 1)
          else x.silence
        windowPhase := if x.state = .active then min 100 (x.windowPhase + 1) else x.windowPhase
        queueTimer :=
          if tick = true ∧ x.state = .active ∧ x.occupied = true ∧ x.served = false
              ∧ (∃ r, x.duty = .queue r ∧ (s.rampState r = .metering ∨ s.rampState r = .stopping)) then
            min 600 (x.queueTimer + 1)
          else x.queueTimer } := by
  cases hd : (s.chan c).duty <;>
    simp [State.sampleChannel, comparing_iff, isActive_iff, silenceRuns_iff, queueRuns_iff, hd]

/-- On-time runs while an ACTIVE channel is occupied and its ramp is not CLOSED (R7). -/
theorem sampleChannel_onTime (s : State) (tick : Bool) (c : Fin 32) :
    let x := s.chan c
    (∀ r, s.boundRamp c = some r → x.state = .active → x.occupied = true → s.rampState r ≠ .closed →
      (s.sampleChannel tick c x).onTime = min ((s.ramp r).ctl.interval * 100) (x.onTime + 1))
    ∧ (x.state ≠ .active ∨ x.occupied = false ∨ (∀ r, s.boundRamp c = some r → s.rampState r = .closed) →
      (s.sampleChannel tick c x).onTime = x.onTime) := by
  refine ⟨fun r hr hactive hocc hopen => ?_, fun h => ?_⟩
  · simp [State.sampleChannel, Channel.isActive, hr, hactive, hocc, hopen]
  · obtain h | h | h := h
    · simp [State.sampleChannel, Channel.isActive, h]
    · simp [State.sampleChannel, h]
    · cases hb : s.boundRamp c with
      | none => simp [State.sampleChannel, hb]
      | some r => simp [State.sampleChannel, hb, h r hb]

/-! ### A ramp -/

/-- 10 ms of the hold-off of a METERING ramp (R77). -/
theorem RampControl.sampleHoldOff_eq (x : RampControl) :
    x.sampleHoldOff =
      { x with
        holdOff := if x.state = .metering ∧ 1 < x.holdOff ∧ 100 ≤ x.holdOffRun + 1 then x.holdOff - 1 else x.holdOff
        holdOffRun :=
          if x.state ≠ .metering ∨ x.holdOff = 0 then x.holdOffRun
          else if x.holdOffRun + 1 < 100 then x.holdOffRun + 1
          else if 1 < x.holdOff then 0 else 100 } := by
  unfold RampControl.sampleHoldOff
  by_cases hm : x.state = .metering
  · by_cases hz : x.holdOff = 0
    · cases x; simp_all
    · by_cases hrun : x.holdOffRun + 1 < 100
      · have hfull : ¬ 99 ≤ x.holdOffRun := by omega
        simp [hm, hz, hrun, hfull]
      · have hfull : 99 ≤ x.holdOffRun := by omega
        by_cases hlast : 1 < x.holdOff <;> simp [hm, hz, hrun, hfull, hlast]
  · simp [hm]

/-- Everything 10 ms do to a ramp (R42, R63, R74, R76, R77, R99). -/
theorem sampleRamp_eq (s : State) (tick : Bool) (r : Fin 4) (x : Ramp) :
    s.sampleRamp tick r x =
      { x with
        ctl := { x.ctl with
          elapsed :=
            if tick = true ∧ x.ctl.state ≠ .closed then min (x.ctl.interval * 10) (x.ctl.elapsed + 1) else x.ctl.elapsed
          override := x.ctl.override.map Override.sample
          suspension := x.ctl.suspension.map Suspension.sample
          holdOff :=
            if x.ctl.state = .metering ∧ 1 < x.ctl.holdOff ∧ 100 ≤ x.ctl.holdOffRun + 1 then x.ctl.holdOff - 1
            else x.ctl.holdOff
          holdOffRun :=
            if x.ctl.state ≠ .metering ∨ x.ctl.holdOff = 0 then x.ctl.holdOffRun
            else if x.ctl.holdOffRun + 1 < 100 then x.ctl.holdOffRun + 1
            else if 1 < x.ctl.holdOff then 0 else 100 }
        queue := { x.queue with
          emptyTimer :=
            if s.emptyRuns r = false then 0
            else if tick then min (x.queue.emptyCheck * 10) (x.queue.emptyTimer + 1) else x.queue.emptyTimer }
        sched := { x.sched with
          sinceGrant :=
            if tick = true ∧ x.ctl.state = .metering then min 6000 (x.sched.sinceGrant + 1) else x.sched.sinceGrant
          fresh := false } } := by
  simp only [State.sampleRamp, RampControl.sample, RampControl.sampleHoldOff_eq, Bool.and_eq_true, decide_eq_true_eq]
  cases s.emptyRuns r <;> simp

/-! ### A lane -/

/-- The settle, re-check and state timers of a lane run on by 10 ms (R114, R134, R140). -/
def Lane.timed (tick : Bool) (x : Lane) : Lane :=
  { x with
    settle := x.settle.map fun k => k - 1
    recheck := x.recheck - 1
    timer := if tick && x.state.ticks then x.timer - 1 else x.timer }

theorem Lane.sample_bound {x : Lane} (h : x.ramp ≠ none) (q : Nat) (tick : Bool) :
    x.sample q tick = ((x.timed tick).sampleConflict q).sampleProving :=
  if_pos (Option.isSome_iff_ne_none.2 h)

theorem Lane.sample_unbound {x : Lane} (h : x.ramp = none) (q : Nat) (tick : Bool) : x.sample q tick = x.timed tick :=
  if_neg (by simp [h])

theorem ticks_iff (x : LaneState) :
    x.ticks = true ↔ x = .starting ∨ x = .redMin ∨ x = .green ∨ x = .amber ∨ x = .flush := by
  cases x <;> simp [LaneState.ticks]

theorem Lane.timed_timer (tick : Bool) (x : Lane) :
    (x.timed tick).timer =
      if tick = true ∧ (x.state = .starting ∨ x.state = .redMin ∨ x.state = .green ∨ x.state = .amber
        ∨ x.state = .flush) then x.timer - 1 else x.timer := by
  simp only [Lane.timed, Bool.and_eq_true, ticks_iff]

/-- Everything 10 ms do to a lane (R114, R116, R134 to R136, R140). -/
theorem Lane.sample_spec (q : Nat) (tick : Bool) (x : Lane) :
    let y := x.sample q tick
    let proves := x.ramp ≠ none ∧ x.state = .proving
    y = { x with
      settle := x.settle.map fun k => k - 1, recheck := x.recheck - 1, timer := y.timer, provingLeft := y.provingLeft
      clearRun := y.clearRun, seen := y.seen, conflict := y.conflict, conflictMark := y.conflictMark
      conflictBefore := if x.ramp = none then x.conflictBefore else x.conflict
      markBefore := if x.ramp = none then x.markBefore else x.conflictMark }
    ∧ (¬ proves → y.timer = (x.timed tick).timer ∧ y.provingLeft = x.provingLeft ∧ y.clearRun = x.clearRun
        ∧ y.seen = x.seen)
    ∧ (proves →
        y.provingLeft = x.provingLeft - 1 ∧ y.timer = (x.provingLeft - 1 + 9) / 10
        ∧ y.clearRun = (if x.sense = Lamps.dark then min 100 (x.clearRun + 1) else 0)
        ∧ y.seen = { red := x.seen.red || x.sense.red, amber := x.seen.amber || x.sense.amber
                     green := x.seen.green || x.sense.green })
    ∧ (x.ramp = none → y.conflict = x.conflict ∧ y.conflictMark = x.conflictMark)
    ∧ (x.ramp ≠ none → ¬ x.InConflict → y.conflict = 0 ∧ y.conflictMark = .counting)
    ∧ (x.InConflict → x.conflictMark = .taken → y.conflict = q ∧ y.conflictMark = .taken)
    ∧ (x.InConflict → x.conflictMark ≠ .taken → y.conflict = min q (x.conflict + 1)
        ∧ y.conflictMark = if q ≤ x.conflict + 1 then .reached (if x.aspect ≠ .green then 1 else 2) else .counting) := by
  by_cases hb : x.ramp = none
  · rw [Lane.sample_unbound hb]
    have hno : ¬ x.InConflict := fun h => h.1 hb
    simp [hb, hno, Lane.timed]
  · obtain ⟨n, mark, hc, hclear, htaken, hcount⟩ := Lane.sampleConflict_eq q (x.timed tick)
    have hmet : (x.timed tick).conflictMet = true ↔ x.InConflict := x.conflictMet_iff
    rw [Lane.sample_bound hb, hc, Lane.sampleProving_eq]
    refine ⟨?_, ?_, ?_, fun h => absurd h hb, fun _ h => hclear (by rwa [← Bool.not_eq_true, hmet]),
      fun h => htaken (hmet.2 h), fun h => hcount (hmet.2 h)⟩
    · simp [hb, Lane.timed]
    · intro h
      have hp : x.state ≠ .proving := fun hp => h ⟨hb, hp⟩
      simp [Lane.timed, hp]
    · rintro ⟨-, hp⟩
      simp [Lane.timed, hp]

/-- Settles O6: each record's sample, in the words of its rules. -/
theorem timePasses : Obligations.TimePasses := by
  refine ⟨fun s hs => advance_resetting hs, fun s hs htick => ⟨?_, ?_, ?_, ?_, ?_, fun c => ?_, fun r => ?_, fun l => ?_⟩⟩
  · simp [State.advance, hs, ResetUnit.sample_eq, LampUnit.sample_eq, Supervision.sample_eq]
  · simp [State.advance, hs, ResetUnit.sample_eq]
  · simp [State.advance, hs, ResetUnit.sample_eq]
  · simp [State.advance, hs, Supervision.sample_eq]
  · simp [State.advance, hs, LampUnit.sample_eq]
  · rw [advance_chan hs]
    have h := sampleChannel_eq s (decide (s.tickPhase = 9)) c
    simp only [decide_eq_true_eq] at h
    exact ⟨h, sampleChannel_onTime s _ c⟩
  · rw [advance_ramp hs, sampleRamp_eq]
    simp only [decide_eq_true_eq]
    rfl
  · rw [advance_lane hs]
    have h := Lane.sample_spec s.lamp.qualify (decide (s.tickPhase = 9)) (s.lane l)
    simp only [Lane.timed_timer, decide_eq_true_eq] at h
    exact h

end Sys2Proof.Machine

/-! # The command restart, and the measuring steps of an interval close -/

namespace Sys2Proof.Machine

/-! ## The command restart -/

@[simp] theorem restartRecords_chan (s : State) (c : Fin 32) : s.restartRecords.chan c = (s.chan c).restart := by
  simp [State.restartRecords, State.chan]
@[simp] theorem restartRecords_ramp (s : State) (r : Fin 4) : s.restartRecords.ramp r = (s.ramp r).restart := by
  simp [State.restartRecords, State.ramp]
@[simp] theorem restartRecords_lane (s : State) (l : Fin 8) : s.restartRecords.lane l = (s.lane l).restart := by
  simp [State.restartRecords, State.lane]

/-- The command restart leaves the plans, the locks, the queue and the model's own counter as they are, and gives every
other record its value after a restart (the table of section 11.5). -/
theorem commandRestart_eq (s : State) :
    s.commandRestart =
      { s with
        channels := s.commandRestart.channels, ramps := s.commandRestart.ramps, lanes := s.commandRestart.lanes
        lamp := { s.lamp with present := false, supplyTimer := 0 }
        faults := FaultRegister.reset
        sup := { s.sup with stage := .present, timer := 0, lastToken := 0, firstMark := true, keptAlive := false }
        unit :=
          { armed := false, restartPending := false, inReset := ResetKinds.none, uptime := 0, uptimeRun := 0
            causes := { s.unit.causes with command := true } }
        link := { phase := .idle, shortFrames := 0, result := none, reply := [] }
        tickPhase := 0 } := by
  simp only [State.commandRestart, State.mapRamps, State.restartRecords, LampUnit.restart, Supervision.restart, Link.start]

@[simp] theorem commandRestart_chan (s : State) (c : Fin 32) : s.commandRestart.chan c = (s.chan c).restart := by
  simp [State.commandRestart]
@[simp] theorem commandRestart_lane (s : State) (l : Fin 8) : s.commandRestart.lane l = (s.lane l).restart := by
  simp [State.commandRestart]

/-- A channel after a command restart keeps its configuration, and starts an acquisition where it was in use (R2). -/
theorem Channel.restart_eq (x : Channel) :
    x.restart =
      { x.cleared with
        state := if x.state = .unused ∨ x.state = .parked then x.state else .active
        acquiring := decide (x.state ≠ .unused ∧ x.state ≠ .parked)
        periodMark := decide (x.state ≠ .unused ∧ x.state ≠ .parked) } := by
  cases h : x.state <;> simp [Channel.restart, h, Channel.zeroDynamic, Channel.activate, Channel.cleared, Channel.fullReset]

/-- The ramps after a command restart: a CLOSED one at its full-reset value, any other in STANDBY with its configuration,
and the ceiling and entry-degraded of the channels and lanes as the restart leaves them (R22, R31, R60, R81, R98). -/
theorem commandRestart_ramp (s : State) (r : Fin 4) :
    s.commandRestart.ramp r =
      if s.rampState r = .closed then Ramp.fullReset
      else
        { Ramp.fullReset with
          ctl := { RampControl.fullReset with
            state := .standby, mode := (s.ramp r).ctl.mode, interval := (s.ramp r).ctl.interval
            suspendHoldOff := (s.ramp r).ctl.suspendHoldOff, active := (s.ramp r).ctl.active }
          queue := { Queue.fullReset with
            capacity := (s.ramp r).queue.capacity, position := (s.ramp r).queue.position
            emptyCheck := (s.ramp r).queue.emptyCheck, queueCheck := (s.ramp r).queue.queueCheck
            entryDegraded := !s.commandRestart.someActive (.entry r) }
          rate := { Rate.fullReset with ceiling := s.commandRestart.ceilingOf r } } := by
  have hactive : s.commandRestart.someActive = s.restartRecords.someActive :=
    someActive_congr (by funext c; rw [commandRestart_chan, restartRecords_chan])
  have hceiling : s.commandRestart.ceilingOf = s.restartRecords.ceilingOf :=
    ceilingOf_congr (by funext l; rw [commandRestart_lane, restartRecords_lane])
  have hramp : s.commandRestart.ramp r =
      if (s.ramp r).restart.ctl.state = .closed then (s.ramp r).restart
      else
        { (s.ramp r).restart with
          rate := { (s.ramp r).restart.rate with ceiling := s.restartRecords.ceilingOf r }
          queue := { (s.ramp r).restart.queue with entryDegraded := !s.restartRecords.someActive (.entry r) } } := by
    simp [State.commandRestart]
  rw [hramp, hactive, hceiling]
  by_cases h : (s.ramp r).ctl.state = .closed
  · simp [Ramp.restart, State.rampState, h, Ramp.fullReset, RampControl.fullReset]
  · simp [Ramp.restart, State.rampState, h, Ramp.fullReset]

/-- Settles O19. -/
theorem commandRestartKeepsConfiguration : Obligations.CommandRestartKeepsConfiguration := by
  refine ⟨fun s hp hs => ⟨s.commandRestart, ?_, fun c => ?_, by rw [commandRestart_eq], fun r hr => ?_, fun r hr => ?_, fun l => ?_,
    by rw [commandRestart_eq], by rw [commandRestart_eq]; rfl, by rw [commandRestart_eq], by rw [commandRestart_eq],
    by rw [commandRestart_eq], by rw [commandRestart_eq]⟩, fun s h => ?_⟩
  · show execCommandRestart s = _
    simp [execCommandRestart, hp, hs]
  · rw [commandRestart_chan, Channel.restart_eq]
    cases h : (s.chan c).state <;> simp [Channel.cleared, Channel.fullReset]
  · rw [commandRestart_ramp, if_pos hr]; simp [State.reset, State.ramp]
  · rw [commandRestart_ramp, if_neg hr]; simp [State.reset, State.ramp, Ramp.fullReset]
  · rw [commandRestart_lane]; simp [State.reset, State.lane, Lane.restart, Lane.fullReset]
  · show execCommandRestart s = _
    obtain h | h := h <;> simp [execCommandRestart, h]

/-! ## Steps 1 to 3 of an interval close -/

@[simp] theorem afterLatch_rampState (s : State) (r : Fin 4) : (s.afterLatch r).rampState = s.rampState := by
  funext i; simp only [State.rampState, afterLatch_ramp]; split <;> simp_all

@[simp] theorem formStation_rampState (s : State) (r : Fin 4) : (s.formStation r).rampState = s.rampState := by
  funext i; simp only [State.rampState, formStation_ramp]; split <;> simp_all

@[simp] theorem applyPending_rampState (s : State) (r : Fin 4) : (s.applyPending r).rampState = s.rampState := by
  funext i; rw [State.rampState, applyPending_ramp]
  split
  · next h => rw [State.rampState, h.1]
  · rfl

/-- The step of spill and rate is that of a METERING ramp alone. -/
theorem meterClose_still {s : State} {r : Fin 4} (h : s.rampState r ≠ .metering) : s.meterClose r = s := by
  unfold State.meterClose; split <;> simp_all

/-- Step 2 raises the onset of mainline loss alone (R28). -/
theorem formStation_faults (s : State) (r : Fin 4) :
    (s.formStation r).faults =
      if s.stationChannels r = [] ∧ (s.ramp r).station.valid = true then
        s.faults.onset
          { kind := .mainlineLost, object := .ramp, index := r.val
            detail := (List.finRange 32).countP fun c => (s.chan c).duty = .mainline r
            uptime := s.unit.uptime }
      else s.faults := by
  simp only [State.formStation, Bool.and_eq_true, decide_eq_true_eq, List.length_eq_zero_iff]
  split
  · simp [State.chansWhere, List.countP_eq_length_filter]
  · rfl

/-- The record of the ramp after steps 1 to 3. -/
theorem measured_ramp (s : State) (r : Fin 4) :
    (((s.afterLatch r).formStation r).applyPending r).ramp r =
      { s.ramp r with
        ctl := { (s.ramp r).ctl with
          elapsed := 0
          active :=
            if s.rampState r = .metering ∨ s.rampState r = .suspended ∨ s.rampState r = .stopping then
              (s.ramp r).ctl.pending.or (s.ramp r).ctl.active
            else (s.ramp r).ctl.active
          pending :=
            if s.rampState r = .metering ∨ s.rampState r = .suspended ∨ s.rampState r = .stopping then none
            else (s.ramp r).ctl.pending }
        station := (s.ramp r).station.formed ((s.afterLatch r).stationChannels r).length
          (((s.afterLatch r).stationChannels r).map fun c => ((s.afterLatch r).chan c).latchedOcc).sum
          (((s.afterLatch r).stationChannels r).map fun c => ((s.afterLatch r).chan c).latchedCount).sum
          (s.ramp r).ctl.interval } := by
  simp only [applyPending_ramp, formStation_ramp, afterLatch_ramp, formStation_rampState, afterLatch_rampState, if_true,
    true_and]
  split <;> rfl

/-- The Fault Register after steps 1 to 3: the onset of mainline loss alone. -/
theorem measured_faults (s : State) (r : Fin 4) :
    (((s.afterLatch r).formStation r).applyPending r).faults =
      if (s.afterLatch r).stationChannels r = [] ∧ (s.ramp r).station.valid = true then
        s.faults.onset
          { kind := .mainlineLost, object := .ramp, index := r.val
            detail := (List.finRange 32).countP fun c => (s.chan c).duty = .mainline r
            uptime := s.unit.uptime }
      else s.faults := by
  have hduty : ∀ c, ((s.afterLatch r).chan c).duty = (s.chan c).duty := by
    intro c; rw [afterLatch_chan]; split <;> rfl
  rw [applyPending_eq]
  simp only [formStation_faults, hduty, afterLatch_ramp, if_true]
  rw [afterLatch_eq]

theorem closeMeasured_sup (s : State) (r : Fin 4) : (s.closeMeasured r).sup = s.sup := by rw [closeMeasured_eq]

theorem exec_intervalClose_eq (s : State) (r : Fin 4) :
    exec (.intervalClose r) s = event (fun s => if s.rampState r = .closed then s else s.closeInterval r) s := rfl

theorem exec_intervalClose {s : State} {r : Fin 4} (hs : s.resetting = false) (hopen : s.rampState r ≠ .closed) :
    exec (.intervalClose r) s = .next (s.closeInterval r) := by
  rw [exec_intervalClose_eq, event_running _ hs, if_neg hopen]

/-- An interval close is steps 1 to 5 and then automatic activation (R63). -/
theorem closeInterval_eq (s : State) (r : Fin 4) : s.closeInterval r = (s.closeMeasured r).activate r := rfl

/-- With effective mode HOST there is no automatic activation (R69). -/
theorem activate_host {s : State} {r : Fin 4} (h : s.effectiveMode r = .host) : s.activate r = s := by
  simp [State.activate, h]

/-- Settles O42, by the laws of steps 1 to 3. -/
theorem intervalCloseMeasures : Obligations.IntervalCloseMeasures := by
  refine ⟨fun s r hopen => ?_, ?_⟩
  · have hctl := meterClose_ctl (((s.afterLatch r).formStation r).applyPending r) r
    rw [← closeMeasured_afterLatch, measured_ramp] at hctl
    obtain ⟨hctl, hstation, -⟩ := hctl
    refine ⟨fun hs hhost => ?_, closeMeasured_eq s r, fun j hj => ?_, fun c hc => ?_, fun c hc => ?_, ?_, ?_,
      fun hstill => ?_⟩
    · have hmode : (s.closeMeasured r).effectiveMode r = .host := by
        rw [← hhost]
        simp only [State.effectiveMode, hctl, closeMeasured_sup]
      rw [exec_intervalClose hs hopen, closeInterval_eq, activate_host hmode]
    · rw [closeMeasured_afterLatch, meterClose_ramp_ne hj]
      simp [applyPending_ramp, formStation_ramp, afterLatch_ramp, hj]
    · rw [closeMeasured_chan, afterLatch_chan, if_neg hc]
    · rw [closeMeasured_chan, afterLatch_chan, if_pos hc]; rfl
    · rw [hstation, closeMeasured_chan]
      simp only [Station.formed, List.length_eq_zero_iff]
      rfl
    · rw [hctl]
      cases h : s.rampState r <;> simp_all
    · have hkeep : s.closeMeasured r = ((s.afterLatch r).formStation r).applyPending r := by
        rw [closeMeasured_afterLatch, meterClose_still (by simpa using hstill)]
      refine ⟨by rw [hkeep, measured_ramp], by rw [hkeep, measured_ramp], by rw [hkeep, measured_ramp], ?_⟩
      rw [closeMeasured_chan, hkeep, measured_faults]; rfl
  · rintro s r (hs | h)
    · rw [exec_intervalClose_eq, event_resetting _ hs]
    · rw [exec_intervalClose_eq]; exact event_still (if_pos h)

end Sys2Proof.Machine

/-! # Reading the records, their values after reset, and the levels of the pins -/

namespace Sys2Proof.Machine

/-! ## The values after reset -/

/-- Settles O17: each record of `State.reset` is read at the value it was made with. -/
theorem resetValues : Obligations.ResetValues := by
  refine ⟨fun c => ?_, fun p => ?_, fun r => ?_, fun l => ?_, rfl, rfl, fun k => ?_, rfl, rfl, rfl, rfl, rfl, rfl, rfl,
    rfl, rfl⟩
  · simp [State.reset, State.chan, Channel.fullReset]
  · simp [State.reset, State.plan, Plan.free, PlanFields.free]
  · simp [State.reset, State.ramp, Ramp.fullReset, RampControl.fullReset, Station.start, Queue.fullReset, Rate.fullReset,
      Scheduler.fullReset]
  · simp [State.reset, State.lane, Lane.fullReset, Lamps.dark]
  · simp [State.reset, FaultRegister.countOf, FaultRegister.reset]

/-! ## Demand, exit source and binding -/

theorem isFaulted_iff (x : Channel) : x.isFaulted = true ↔ ∃ k, x.state = .faulted k := by
  unfold Channel.isFaulted; cases x.state <;> simp

theorem someActive_iff (s : State) (d : Duty) :
    s.someActive d = true ↔ ∃ c, (s.chan c).duty = d ∧ (s.chan c).state = .active := by
  simp [State.someActive, isActive_iff]

/-- Demand is present with a FAULTED DEMAND channel, with none ACTIVE, or with an occupied one (R18). -/
theorem demand_iff (s : State) (l : Fin 8) :
    s.demand l = true ↔
      (∃ c k, (s.chan c).duty = .demand l ∧ (s.chan c).state = .faulted k)
      ∨ (∀ c, (s.chan c).duty = .demand l → (s.chan c).state ≠ .active)
      ∨ ∃ c, (s.chan c).duty = .demand l ∧ (s.chan c).state = .active ∧ (s.chan c).occupied = true := by
  have hnone : s.someActive (.demand l) = false ↔ ∀ c, (s.chan c).duty = .demand l → (s.chan c).state ≠ .active := by
    rw [← Bool.not_eq_true, someActive_iff]; simp
  simp [State.demand, hnone, isFaulted_iff, isActive_iff, and_assoc, or_assoc]

/-- Settles O29. -/
theorem demandExitSourceAndBinding : Obligations.DemandExitSourceAndBinding := by
  refine ⟨fun s l => ⟨demand_iff s l, someActive_iff s _⟩, fun s c => ⟨?_, ?_, fun r => someActive_iff s _⟩⟩
  · unfold State.boundRamp; cases (s.chan c).duty <;> rfl
  · cases (s.chan c).duty <;> rfl

/-! ## The read requests -/

theorem withPlan_byteOf (p : Fin 16) (serve : Fin 16 → State → Served) (s : State) :
    withPlan (byteOf p.val) serve s = serve p s := by simp [withPlan]
theorem withRamp_byteOf (r : Fin 4) (serve : Fin 4 → State → Served) (s : State) :
    withRamp (byteOf r.val) serve s = serve r s := by simp [withRamp]
theorem withLane_byteOf (l : Fin 8) (serve : Fin 8 → State → Served) (s : State) :
    withLane (byteOf l.val) serve s = serve l s := by simp [withLane]

theorem withPlan_bad {b : Byte} (hb : 16 ≤ b.toNat) (serve : Fin 16 → State → Served) (s : State) :
    withPlan b serve s = refuse s .badId := by simp [withPlan, planOf_bad hb]
theorem withRamp_bad {b : Byte} (hb : 4 ≤ b.toNat) (serve : Fin 4 → State → Served) (s : State) :
    withRamp b serve s = refuse s .badId := by simp [withRamp, rampOf_bad hb]
theorem withLane_bad {b : Byte} (hb : 8 ≤ b.toNat) (serve : Fin 8 → State → Served) (s : State) :
    withLane b serve s = refuse s .badId := by simp [withLane, laneOf_bad hb]

/-- Settles O11. -/
theorem readRequestsChangeNothing : Obligations.ReadRequestsChangeNothing := by
  intro s h
  refine ⟨fun c => ?_, fun p => ?_, fun r => ?_, fun l => ?_, request_answered (fun s => accept s s.faults.reply) h,
    fun b hb => channelRequest_bad hb _ h,
    fun b hb => ?_, fun b hb => ?_, fun b hb => ?_⟩
  · exact channelRequest_served c (fun c s => accept s (s.chan c).reply) h
  · exact (request_answered _ h).trans (by rw [withPlan_byteOf]; rfl)
  · exact (request_answered _ h).trans (by rw [withRamp_byteOf]; rfl)
  · exact (request_answered _ h).trans (by rw [withLane_byteOf]; rfl)
  · exact (request_answered _ h).trans (by rw [withPlan_bad hb]; rfl)
  · exact (request_answered _ h).trans (by rw [withRamp_bad hb]; rfl)
  · exact (request_answered _ h).trans (by rw [withLane_bad hb]; rfl)

/-! ## The levels of the pins -/

theorem setChan_same (s : State) (c : Fin 32) : s.setChan c (s.chan c) = s := by
  refine State.ext_fields ?_ rfl rfl rfl rfl rfl rfl rfl rfl rfl rfl rfl rfl
  ext i hi : 1
  simp only [State.setChan, Vector.getElem_set]
  split
  · next h => subst h; rfl
  · rfl

theorem setLane_same (s : State) (l : Fin 8) : s.setLane l (s.lane l) = s := by
  refine State.ext_fields rfl rfl rfl ?_ rfl rfl rfl rfl rfl rfl rfl rfl rfl
  ext i hi : 1
  simp only [State.setLane, Vector.getElem_set]
  split
  · next h => subst h; rfl
  · rfl

theorem inputChange_same {x : Channel} {high : Bool} (h : x.input = high) : x.inputChange high = x := if_pos h

theorem senseChange_same {x : Lane} {levels : Lamps} (h : x.sense = levels) (q : Nat) : x.senseChange q levels = x :=
  if_pos h

theorem supplyInput_same {s : State} {high : Bool} (h : s.lamp.lsup = high) : s.supplyInput high = s := if_pos h

theorem inputChange_eq {x : Channel} {high : Bool} (h : x.input ≠ high) :
    x.inputChange high =
      { x with input := high, qualification := if x.state = .active then 0 else x.qualification } := by
  simp [Channel.inputChange, h, isActive_iff]

/-- The present sample of the conflict timer judged anew (R136). -/
theorem judgeConflict_eq (q : Nat) (x : Lane) :
    x.judgeConflict q =
      { x with
        conflict := if ¬ x.InConflict then 0 else if x.conflict ≠ 0 then x.conflict
          else if x.markBefore = .taken then x.conflictBefore else min q (x.conflictBefore + 1)
        conflictMark := if ¬ x.InConflict then .counting else if x.conflict ≠ 0 then x.conflictMark
          else if x.markBefore = .taken then .taken
          else if q ≤ x.conflictBefore + 1 then .reached (if x.aspect ≠ .green then 1 else 2) else .counting } := by
  have hmet := x.conflictMet_iff
  by_cases hi : x.InConflict
  · have h : x.conflictMet = true := hmet.2 hi
    by_cases hz : x.conflict = 0
    · by_cases hm : x.markBefore = .taken <;> simp [Lane.judgeConflict, h, hi, hz, hm, Lane.countConflict, Lane.conflictDetail]
    · simp [Lane.judgeConflict, h, hi, hz]
  · have h : x.conflictMet = false := by rwa [← Bool.not_eq_true, hmet]
    simp [Lane.judgeConflict, h, hi]

/-- The clear run and the seen set at a change of the sense levels (R135). -/
theorem judgeProving_eq {y x : Lane} (h : y.sense ≠ x.sense) :
    y.judgeProving x =
      { y with
        clearRun := if y.state ≠ .proving then y.clearRun
          else if y.sense ≠ Lamps.dark ∨ y.provingLeft = 300 then 0 else 1
        seen := if y.state = .proving then
            { red := y.seen.red || y.sense.red, amber := y.seen.amber || y.sense.amber
              green := y.seen.green || y.sense.green }
          else y.seen } := by
  by_cases hp : y.state = .proving
  · by_cases hd : y.sense = .dark
    · have hb : ¬ x.sense = .dark := fun e => h (hd.trans e.symm)
      simp [Lane.judgeProving, hp, hd, hb]
      simp [Lamps.dark]
    · simp [Lane.judgeProving, hp, hd]
  · simp [Lane.judgeProving, hp]

/-- A changed level of the sense inputs of a bound lane (R134 to R136). -/
theorem senseChange_eq {x : Lane} {levels : Lamps} (hb : x.ramp ≠ none) (h : x.sense ≠ levels) (q : Nat) :
    let y : Lane := { x with sense := levels }
    x.senseChange q levels =
      { y with
        conflict := if ¬ y.InConflict then 0 else if x.conflict ≠ 0 then x.conflict
          else if x.markBefore = .taken then x.conflictBefore else min q (x.conflictBefore + 1)
        conflictMark := if ¬ y.InConflict then .counting else if x.conflict ≠ 0 then x.conflictMark
          else if x.markBefore = .taken then .taken
          else if q ≤ x.conflictBefore + 1 then .reached (if x.aspect ≠ .green then 1 else 2) else .counting
        clearRun := if x.state ≠ .proving then x.clearRun
          else if levels ≠ Lamps.dark ∨ x.provingLeft = 300 then 0 else 1
        seen := if x.state = .proving then
            { red := x.seen.red || levels.red, amber := x.seen.amber || levels.amber
              green := x.seen.green || levels.green }
          else x.seen } := by
  have hchange : x.senseChange q levels = (({ x with sense := levels } : Lane).judgeConflict q).judgeProving x := by
    simp [Lane.senseChange, h, hb]
  have hsense : (({ x with sense := levels } : Lane).judgeConflict q).sense ≠ x.sense := by
    rw [judgeConflict_eq]; exact Ne.symm h
  rw [hchange, judgeProving_eq hsense, judgeConflict_eq]
  rfl

/-- The sense inputs of an unbound lane are only levels on pins (R134). -/
theorem senseChange_unbound {x : Lane} (hb : x.ramp = none) (q : Nat) (levels : Lamps) :
    x.senseChange q levels = { x with sense := levels } := by
  by_cases h : x.sense = levels
  · rw [senseChange_same h, ← h]
  · simp [Lane.senseChange, h, hb]

theorem exec_lampSenseChange (s : State) (l : Fin 8) (red amber green : Bool) :
    exec (.lampSenseChange l red amber green) s =
      .next (s.setLane l
        (if s.resetting then { s.lane l with sense := { red := red, amber := amber, green := green } }
         else (s.lane l).senseChange s.lamp.qualify { red := red, amber := amber, green := green })) := rfl

/-- A rise of LSUP settles the lit lanes that are bound anew, and a fall settles none (R134). -/
theorem supplyInput_lane {s : State} {high : Bool} (h : s.lamp.lsup ≠ high) (l : Fin 8) :
    (s.supplyInput high).lane l =
      if high = true ∧ (s.lane l).ramp.isSome = true ∧ (s.lane l).isLit = true then
        { s.lane l with settle := some 30 }
      else s.lane l := by
  cases high with
  | false => simp [State.supplyInput, h]
  | true =>
    simp only [State.supplyInput, if_neg h, if_true, State.mapLanes_lane, Lane.settleAnew, Bool.and_eq_true, true_and]
    rfl

/-- Settles O54. -/
theorem inputLevels : Obligations.InputLevels := by
  intro s
  refine ⟨fun c high h => ?_, fun l red amber green => ⟨fun h => ?_, fun hs hb h => ?_⟩, fun high h => ?_, fun c => ?_,
    fun l => ?_, ?_⟩
  · show Host.Outcome.next (s.setChan c ((s.chan c).inputChange high)) = _
    rw [inputChange_eq h]
  · rw [exec_lampSenseChange]
    obtain hs | hb := h
    · rw [if_pos hs]
    · rw [senseChange_unbound hb, ite_self]
  · rw [exec_lampSenseChange, hs, if_neg Bool.false_ne_true, senseChange_eq hb h]
  · refine ⟨s.supplyInput high, rfl, ?_, fun l => ?_⟩
    · simp only [State.supplyInput, if_neg h]; split <;> simp [State.mapLanes]
    · rw [supplyInput_lane h]
  · show Host.Outcome.next (s.setChan c ((s.chan c).inputChange (s.chan c).input)) = _
    rw [inputChange_same rfl, setChan_same]
  · rw [exec_lampSenseChange, senseChange_same rfl, ite_self, setLane_same]
  · show Host.Outcome.next (s.supplyInput s.lamp.lsup) = _
    rw [supplyInput_same rfl]

end Sys2Proof.Machine

/-! # The bytes of the read replies (section 12.6) -/

namespace Sys2Proof.Machine

/-! ## One field of a reply -/

theorem fieldAt_one {reply : List Byte} {k v : Nat} : FieldAt reply k 1 v ↔ reply[k]? = some (byteOf v) := by
  simp [FieldAt, byteOf]

theorem fieldAt_two {reply : List Byte} {k v : Nat} :
    FieldAt reply k 2 v ↔ reply[k]? = some (byteOf (v / 256)) ∧ reply[k + 1]? = some (byteOf v) := by
  refine ⟨fun h => ⟨by simpa [byteOf] using h 0 (by omega), by simpa [byteOf] using h 1 (by omega)⟩,
    fun ⟨h0, h1⟩ i hi => ?_⟩
  obtain rfl | rfl : i = 0 ∨ i = 1 := by omega
  · simpa [byteOf] using h0
  · simpa [byteOf] using h1

theorem fieldAt_four {reply : List Byte} {k v : Nat} :
    FieldAt reply k 4 v ↔
      reply[k]? = some (byteOf (v / 16777216)) ∧ reply[k + 1]? = some (byteOf (v / 65536))
        ∧ reply[k + 2]? = some (byteOf (v / 256)) ∧ reply[k + 3]? = some (byteOf v) := by
  refine ⟨fun h => ⟨by simpa [byteOf] using h 0 (by omega), by simpa [byteOf] using h 1 (by omega),
    by simpa [byteOf] using h 2 (by omega), by simpa [byteOf] using h 3 (by omega)⟩, fun ⟨h0, h1, h2, h3⟩ i hi => ?_⟩
  obtain rfl | rfl | rfl | rfl : i = 0 ∨ i = 1 ∨ i = 2 ∨ i = 3 := by omega
  · simpa [byteOf] using h0
  · simpa [byteOf] using h1
  · simpa [byteOf] using h2
  · simpa [byteOf] using h3

theorem bit_eq_toNat (b : Bool) : bit b = b.toNat := by cases b <;> rfl

/-- A byte made of eight flags shows each in its bit. -/
theorem byteOf_bits (a b c d e f g h : Bool) :
    let w := byteOf (bit a + 2 * bit b + 4 * bit c + 8 * bit d + 16 * bit e + 32 * bit f + 64 * bit g + 128 * bit h)
    w.getLsbD 0 = a ∧ w.getLsbD 1 = b ∧ w.getLsbD 2 = c ∧ w.getLsbD 3 = d ∧ w.getLsbD 4 = e ∧ w.getLsbD 5 = f
      ∧ w.getLsbD 6 = g ∧ w.getLsbD 7 = h := by
  revert a b c d e f g h; decide

/-- A byte made of four flags shows each in its bit, and no other. -/
theorem byteOf_fourBits (a b c d : Bool) :
    let w := byteOf (bit a + 2 * bit b + 4 * bit c + 8 * bit d)
    w.getLsbD 0 = a ∧ w.getLsbD 1 = b ∧ w.getLsbD 2 = c ∧ w.getLsbD 3 = d ∧ w.toNat < 16 := by
  revert a b c d; decide

theorem rampSet_bits (p : Fin 4 → Bool) : (rampSet p).toNat < 16 ∧ ∀ r : Fin 4, (rampSet p).getLsbD r = p r := by
  obtain ⟨h0, h1, h2, h3, hlt⟩ := byteOf_fourBits (p 0) (p 1) (p 2) (p 3)
  refine ⟨hlt, fun r => ?_⟩
  match r with
  | 0 => exact h0
  | 1 => exact h1
  | 2 => exact h2
  | 3 => exact h3

theorem indexByte_eq {n : Nat} (i : Option (Fin n)) : indexByte i = byteOf (i.elim 255 Fin.val) := by cases i <;> rfl

/-! ## The replies with no optional part left to read -/

/-- The Ramp Control part of RAMP READ: an absent override and an absent suspension read as zeros (R79). -/
theorem rampControl_reply (m : Mode) (x : RampControl) :
    x.reply m =
      [byteOf x.state.code, byteOf x.mode.code, byteOf m.code, byteOf x.interval, byteOf (x.elapsed / 10),
        indexByte x.active, indexByte x.pending]
      ++ be16 x.suspendHoldOff ++ be16 x.holdOff
      ++ ([byteOf x.override.isSome.toNat] ++ be16 (x.override.elim 0 Override.rate)
        ++ [byteOf (x.override.elim 0 Override.minutes)])
      ++ [byteOf (x.suspension.elim 0 Suspension.minutes)]
      ++ [byteOf x.onRun, byteOf x.offRun, byteOf (bit x.state.sign)] := by
  unfold RampControl.reply
  cases x.override <;> cases x.suspension <;> rfl

/-- The thirteen counts as the list of their kinds' numbers. -/
theorem counts_toList (v : Vector Nat 13) :
    v.toList = [v[0], v[1], v[2], v[3], v[4], v[5], v[6], v[7], v[8], v[9], v[10], v[11], v[12]] := by
  refine List.ext_getElem (by simp) fun i h _ => ?_
  simp only [Vector.length_toList] at h
  interval_cases i <;> simp

theorem able_iff (x : Lane) :
    x.able = true ↔ x.ramp ≠ none ∧ x.inService = true ∧ x.leaving = false ∧ ∀ cause, x.state ≠ .faultLocked cause := by
  have hlocked : x.isLocked = false ↔ ∀ cause, x.state ≠ .faultLocked cause := by
    unfold Lane.isLocked; cases x.state <;> simp
  simp [Lane.able, hlocked, and_assoc, Option.isSome_iff_ne_none]

theorem listed_iff (s : State) (l : Fin 8) :
    s.listed l = true ↔ ∃ r, (s.lane l).ramp = some r ∧ l ∈ (s.ramp r).sched.waiting := by
  unfold State.listed; cases (s.lane l).ramp <;> simp

theorem sign_iff (x : RampState) : x.sign = true ↔ x = .metering ∨ x = .suspended := by
  cases x <;> simp [RampState.sign]

/-- The waiting list of RAMP READ stands at its offsets, 0xFF in the unused places (R109). -/
theorem rampReply_listed (s : State) (r : Fin 4) {i : Nat} (h : i < 4) :
    (s.rampReply r)[55 + i]? = some (listByte (s.ramp r).sched.waiting i) := by
  simp only [State.rampReply, rampControl_reply]
  obtain rfl | rfl | rfl | rfl : i = 0 ∨ i = 1 ∨ i = 2 ∨ i = 3 := by omega
  all_goals rfl

/-- From offset 15 on, FAULT READ holds the first-fault record and further-faults (R151). -/
theorem faultReply_fieldAt {f : FaultRegister} {k n v : Nat} :
    FieldAt f.reply (15 + k) n v ↔ FieldAt (recordReply f.first ++ [byteOf f.further.toNat]) k n v := by
  have hdrop : f.reply.drop 15 = recordReply f.first ++ [byteOf f.further.toNat] := by
    simp only [FaultRegister.reply, counts_toList, bit_eq_toNat]; rfl
  have hget : ∀ i, f.reply[15 + i]? = (recordReply f.first ++ [byteOf f.further.toNat])[i]? := by
    intro i; rw [← hdrop, List.getElem?_drop]
  simp only [FieldAt, Nat.add_assoc, hget]

/-- The count of the kind with number n stands at offset n + 1 of FAULT READ. -/
theorem faultReply_count (f : FaultRegister) (k : FaultKind) : FieldAt f.reply (k.number + 1) 1 (f.countOf k) := by
  rw [fieldAt_one]
  simp only [FaultRegister.reply, counts_toList]
  cases k <;> rfl

theorem shiftedOut_reply {x : Link} {result : Result} (hp : x.phase = .reply) (hr : x.result = some result) (k : Nat) :
    x.shiftedOut k = some (((result.code :: x.reply)[k]?).getD 0xFF) := by
  simp only [Link.shiftedOut, hp, hr]

/-- Settles O10: each reply is a list of known length, read at its offsets; the codes go case by case. -/
theorem readReplyLayouts : Obligations.ReadReplyLayouts := by
  refine ⟨fun s c => ?_, fun s p => ?_, fun s r => ?_, fun s l => ?_, fun f => ?_, fun x k => ⟨?_, ?_, ?_⟩⟩
  · simp only [fieldAt_one, fieldAt_two, Channel.reply, be16, bit_eq_toNat, List.cons_append, List.nil_append,
      List.getElem?_cons_zero, List.getElem?_cons_succ, List.length_cons, List.length_nil, Option.some.injEq, and_true,
      true_and]
    refine ⟨?_, ?_, ?_, ?_⟩
    · cases (s.chan c).duty <;> rfl
    · cases (s.chan c).duty <;> rfl
    · cases (s.chan c).state <;> rfl
    · obtain _ | _ | (_ | _ | _) | _ := (s.chan c).state <;> rfl
  · simp only [fieldAt_one, fieldAt_two, State.planReply, PlanFields.bytes, be16, State.references, bit_eq_toNat,
      List.cons_append, List.nil_append, List.getElem?_cons_zero, List.getElem?_cons_succ, List.length_cons,
      List.length_nil, Option.some.injEq, and_true, true_and]
    obtain ⟨hactive, hactive'⟩ := rampSet_bits fun r => decide ((s.ramp r).ctl.active = some p)
    obtain ⟨hpending, hpending'⟩ := rampSet_bits fun r => decide ((s.ramp r).ctl.pending = some p)
    exact ⟨_, _, rfl, rfl, hactive, hpending, fun r => ⟨hactive' r, hpending' r⟩⟩
  · have hlist : ∀ i, i < 4 → FieldAt (s.rampReply r) (55 + i) 1 ((s.ramp r).sched.waiting[i]?.elim 255 Fin.val) :=
      fun i h => fieldAt_one.2 ((rampReply_listed s r h).trans (by rw [listByte, indexByte_eq]))
    simp only [fieldAt_one, fieldAt_two, fieldAt_four, State.rampReply, rampControl_reply, be16, be16s, be32s, be32,
      bit_eq_toNat, indexByte_eq, Station.reply, Queue.reply, Rate.reply, Ramp.schedReply, List.cons_append,
      List.nil_append, List.getElem?_cons_zero, List.getElem?_cons_succ, List.length_cons, List.length_nil,
      Option.some.injEq, and_true, true_and] at hlist ⊢
    refine ⟨?_, ?_, ?_, ?_, sign_iff _, ?_, hlist, ?_⟩
    · cases (s.ramp r).ctl.state <;> rfl
    · cases (s.ramp r).ctl.mode <;> rfl
    · cases s.effectiveMode r <;> rfl
    · cases (s.ramp r).ctl.state <;> rfl
    · cases (s.ramp r).rate.decision <;> rfl
    · by_cases h : (s.ramp r).rate.headway ≤ (s.ramp r).sched.sinceGrant <;> simp [Ramp.ready, h]
  · obtain ⟨h0, h1, h2, h3, h4, h5, h6, h7⟩ := byteOf_bits (s.lane l).inService (s.lane l).leaving (s.lane l).able
      (s.lane l).redSuspect (s.demand l) (s.listed l) (s.exitPassage l) (s.lane l).settled
    obtain ⟨g0, g1, g2, g3, glt⟩ := byteOf_fourBits (s.lane l).sense.red (s.lane l).sense.amber (s.lane l).sense.green
      (s.lane l).conflictMet
    simp only [fieldAt_one, fieldAt_two, State.laneReply, be16, indexByte_eq, List.cons_append, List.nil_append,
      List.getElem?_cons_zero, List.getElem?_cons_succ, List.length_cons, List.length_nil, Option.some.injEq, and_true,
      true_and]
    refine ⟨⟨_, rfl, h0, h1, ?_, h3, h4, ?_, h6, ?_⟩, ?_, ?_, ?_, _, rfl, g0, g1, g2, ?_, glt⟩
    · rw [h2, able_iff]
    · rw [h5, listed_iff]
    · rw [h7, settled_iff]
    · cases (s.lane l).state <;> rfl
    · cases (s.lane l).aspect <;> rfl
    · obtain _ | _ | _ | _ | _ | _ | _ | _ | _ | _ | (_ | _ | _) := (s.lane l).state <;> rfl
    · exact (Bool.eq_iff_iff.1 g3).trans (s.lane l).conflictMet_iff
  · have hlen : f.reply.length = 25 := by
      simp only [FaultRegister.reply, counts_toList, be16]; cases f.first <;> rfl
    refine ⟨hlen, fieldAt_two.2 ⟨rfl, rfl⟩, faultReply_count f .detStuckOn, faultReply_count f .detSilent,
      faultReply_count f .detChatter, faultReply_count f .mainlineLost, faultReply_count f .queueSpill,
      faultReply_count f .conflict, faultReply_count f .redLampOut, faultReply_count f .outputStuck,
      faultReply_count f .auxLampOut, faultReply_count f .lampTransient, faultReply_count f .supplyLoss,
      faultReply_count f .hostLost, faultReply_count f .autoChange, fun hf i h15 h23 => ?_, fun x hf => ?_, ?_⟩
    · obtain ⟨k, rfl⟩ : ∃ k, i = 15 + k := ⟨i - 15, by omega⟩
      rw [faultReply_fieldAt, hf, fieldAt_one]
      have hk : k < 9 := by omega
      interval_cases k <;> rfl
    · have hat : ∀ k n v, FieldAt (recordReply (some x) ++ [byteOf f.further.toNat]) k n v → FieldAt f.reply (15 + k) n v :=
        fun k n v h => faultReply_fieldAt.2 (by rwa [hf])
      refine ⟨hat 0 1 _ (fieldAt_one.2 rfl), hat 1 1 _ (fieldAt_one.2 ?_), hat 2 1 _ (fieldAt_one.2 ?_),
        hat 3 1 _ (fieldAt_one.2 rfl), hat 4 1 _ (fieldAt_one.2 rfl), hat 5 4 _ (fieldAt_four.2 ⟨rfl, rfl, rfl, rfl⟩)⟩
      · show some (byteOf x.kind.number) = _
        cases x.kind <;> rfl
      · show some (byteOf x.object.code) = _
        cases x.object <;> rfl
    · refine (faultReply_fieldAt (k := 9)).2 (fieldAt_one.2 ?_)
      cases f.first <;> rfl
  · intro h; simp only [Link.shiftedOut, h]
  · rintro (h | h) <;> simp only [Link.shiftedOut, h]
  · intro result hp hr
    rw [shiftedOut_reply hp hr]
    refine ⟨?_, fun hk hlen => ?_, fun hlen => ?_⟩
    · rintro rfl; cases result <;> rfl
    · obtain ⟨j, rfl⟩ : ∃ j, k = j + 1 := ⟨k - 1, by omega⟩
      have hj : j < x.reply.length := by omega
      simp [List.getElem?_eq_getElem hj]
    · rw [List.getElem?_eq_none (by simpa using hlen)]; rfl

end Sys2Proof.Machine

/-! # What every step keeps of the plans, the bindings and the ramps

Plans, queue parts and optional parts are sound ramp by ramp, and the bindings read of a ramp only whether it is CLOSED. So a
change that keeps the plan table, the duties, the bindings of the lanes and, ramp by ramp, the three conditions keeps all four
invariants; every operation but those that configure is such a change. -/

namespace Sys2Proof.Machine

/-! ## The invariants ramp by ramp -/

/-- The ramp's share of `State.PlansSound`: the plans it names are DEFINED, a CLOSED one names none, a STANDBY one has none
pending. -/
def Ramp.PlansOk (defined : Fin 16 → Bool) (x : Ramp) : Prop :=
  (∀ p, x.ctl.active = some p ∨ x.ctl.pending = some p → defined p = true)
  ∧ (x.ctl.state = .closed → x.ctl.active = none ∧ x.ctl.pending = none)
  ∧ (x.ctl.state = .standby → x.ctl.pending = none)

/-- The ramp's share of `State.QueuesSound`. -/
def Ramp.QueueOk (x : Ramp) : Prop :=
  x.queue.InRange ∧ (x.ctl.state ≠ .metering → x.ctl.state ≠ .stopping → x.queue.stored = 0)
  ∧ (x.queue.spill = true → x.ctl.state = .metering)

/-- The ramp's share of `State.OptionsSound`. -/
def Ramp.OptionsOk (x : Ramp) : Prop :=
  (∀ o, x.ctl.override = some o →
    x.ctl.state = .metering ∧ (60 ≤ o.rate ∧ o.rate ≤ 3600) ∧ (1 ≤ o.minutes ∧ o.minutes ≤ 240))
  ∧ (x.ctl.suspension.isSome = true ↔ x.ctl.state = .suspended)
  ∧ (∀ p, x.ctl.suspension = some p → 1 ≤ p.minutes ∧ p.minutes ≤ 120)
  ∧ (x.ctl.holdOff ≠ 0 → x.ctl.state = .metering)
  ∧ x.ctl.holdOff ≤ 900 ∧ x.ctl.suspendHoldOff ≤ 900

/-- The plans themselves: in range, and a FREE one at its FREE values (R50). -/
def State.TableSound (s : State) : Prop :=
  ∀ p, (s.plan p).fields.InRange ∧ ((s.plan p).defined = false → (s.plan p).fields = PlanFields.free)

/-- The plans that are DEFINED. -/
def State.defines (s : State) (p : Fin 16) : Bool := (s.plan p).defined

theorem plansSound_iff (s : State) : s.PlansSound ↔ s.TableSound ∧ ∀ r, (s.ramp r).PlansOk s.defines := by
  refine ⟨fun ⟨htable, hnamed, hclosed, hstandby⟩ => ⟨htable, fun r => ⟨hnamed r, hclosed r, hstandby r⟩⟩, ?_⟩
  rintro ⟨htable, hramp⟩
  exact ⟨htable, fun r => (hramp r).1, fun r => (hramp r).2.1, fun r => (hramp r).2.2⟩

theorem queuesSound_iff (s : State) : s.QueuesSound ↔ ∀ r, (s.ramp r).QueueOk := Iff.rfl

theorem optionsSound_iff (s : State) : s.OptionsSound ↔ ∀ r, (s.ramp r).OptionsOk := Iff.rfl

theorem boundRamp_of_bindings {s t : State} (hd : ∀ c, (t.chan c).duty = (s.chan c).duty)
    (hb : ∀ l, (t.lane l).ramp = (s.lane l).ramp) (c : Fin 32) : t.boundRamp c = s.boundRamp c := by
  simp only [State.boundRamp, hd]
  cases (s.chan c).duty <;> simp only [State.rampOfDuty, hb]

theorem members_of_bindings {s t : State} (hb : ∀ l, (t.lane l).ramp = (s.lane l).ramp) (r : Fin 4) :
    t.members r = s.members r := by
  simp only [State.members, hb]

/-- The bindings stay sound as long as they stay and no ramp closes. -/
theorem keepsBindings {s t : State} (hd : ∀ c, (t.chan c).duty = (s.chan c).duty)
    (hu : ∀ c, (t.chan c).state = .unused ↔ (s.chan c).state = .unused)
    (hb : ∀ l, (t.lane l).ramp = (s.lane l).ramp)
    (hopen : ∀ r, t.rampState r = .closed → s.rampState r = .closed) : s.BindingsSound → t.BindingsSound := by
  rintro ⟨hchan, hlane, hmembers, hunused⟩
  refine ⟨fun c hc => ?_, fun l r hl => mt (hopen r) (hlane l r (hb l ▸ hl)),
    fun r => members_of_bindings hb r ▸ hmembers r, fun c => by rw [hu, hd, hunused]⟩
  obtain ⟨r, hr, hr'⟩ := hchan c (hd c ▸ hc)
  exact ⟨r, boundRamp_of_bindings hd hb c ▸ hr, mt (hopen r) hr'⟩

/-! ## Changes that keep them -/

/-- The ramp record `y` comes after `x`, with the plans of `d` DEFINED: neither opened nor closed, and as sound as before. -/
structure Ramp.Kept (d : Fin 16 → Bool) (x y : Ramp) : Prop where
  closed : y.ctl.state = .closed ↔ x.ctl.state = .closed
  plans : x.PlansOk d → y.PlansOk d
  queue : x.QueueOk → y.QueueOk
  options : x.OptionsOk → y.OptionsOk

theorem Ramp.Kept.refl (d : Fin 16 → Bool) (x : Ramp) : x.Kept d x := ⟨Iff.rfl, id, id, id⟩

theorem Ramp.Kept.trans {d : Fin 16 → Bool} {x y z : Ramp} (h : x.Kept d y) (g : y.Kept d z) : x.Kept d z :=
  ⟨g.closed.trans h.closed, g.plans ∘ h.plans, g.queue ∘ h.queue, g.options ∘ h.options⟩

/-- The part in `t` comes after `s`: the same plan table, duties and bindings of lanes, no channel taken into or out of use,
and every ramp kept. -/
structure State.Kept (s t : State) : Prop where
  plan : t.plan = s.plan
  duty : ∀ c, (t.chan c).duty = (s.chan c).duty
  unused : ∀ c, (t.chan c).state = .unused ↔ (s.chan c).state = .unused
  binding : ∀ l, (t.lane l).ramp = (s.lane l).ramp
  ramp : ∀ r, (s.ramp r).Kept s.defines (t.ramp r)

/-- The four invariants of O56 pass from `s` to `t`. -/
def State.KeepsSound (s t : State) : Prop :=
  (s.PlansSound → t.PlansSound) ∧ (s.BindingsSound → t.BindingsSound)
  ∧ (s.QueuesSound → t.QueuesSound) ∧ (s.OptionsSound → t.OptionsSound)

theorem State.KeepsSound.trans {s t u : State} (h : s.KeepsSound t) (g : t.KeepsSound u) : s.KeepsSound u :=
  ⟨g.1 ∘ h.1, g.2.1 ∘ h.2.1, g.2.2.1 ∘ h.2.2.1, g.2.2.2 ∘ h.2.2.2⟩

namespace State.Kept

theorem refl (s : State) : s.Kept s := ⟨rfl, fun _ => rfl, fun _ => Iff.rfl, fun _ => rfl, fun _ => .refl _ _⟩

theorem defines {s t : State} (h : s.Kept t) : t.defines = s.defines := by
  funext p; simp only [State.defines, h.plan]

theorem trans {s t u : State} (h : s.Kept t) (g : t.Kept u) : s.Kept u where
  plan := g.plan.trans h.plan
  duty c := (g.duty c).trans (h.duty c)
  unused c := (g.unused c).trans (h.unused c)
  binding l := (g.binding l).trans (h.binding l)
  ramp r := (h.ramp r).trans (h.defines ▸ g.ramp r)

theorem keepsSound {s t : State} (h : s.Kept t) : s.KeepsSound t := by
  refine ⟨?_, keepsBindings h.duty h.unused h.binding fun r => (h.ramp r).closed.1, fun hq r => (h.ramp r).queue (hq r),
    fun ho r => (h.ramp r).options (ho r)⟩
  simp only [plansSound_iff, State.TableSound, h.plan, h.defines]
  exact fun ⟨htable, hramp⟩ => ⟨htable, fun r => (h.ramp r).plans (hramp r)⟩

/-- A change that touches no record of a plan, a channel, a lane or a ramp. -/
theorem of_records {s t : State} (hc : t.chan = s.chan) (hp : t.plan = s.plan) (hl : t.lane = s.lane)
    (hr : t.ramp = s.ramp) : s.Kept t :=
  ⟨hp, fun _ => by rw [hc], fun _ => by rw [hc], fun _ => by rw [hl], fun _ => by rw [hr]; exact .refl _ _⟩

end State.Kept

/-! ### Writing one record, or every record of a kind -/

theorem setRamp_kept {s : State} {r : Fin 4} {x : Ramp} (h : (s.ramp r).Kept s.defines x) : s.Kept (s.setRamp r x) := by
  refine ⟨rfl, fun _ => rfl, fun _ => Iff.rfl, fun _ => rfl, fun i => ?_⟩
  rw [State.setRamp_ramp]
  split
  · next e => rw [e]; exact h
  · exact .refl _ _

theorem mapRamps_kept {s : State} {f : Fin 4 → Ramp → Ramp} (h : ∀ r, (s.ramp r).Kept s.defines (f r (s.ramp r))) :
    s.Kept (s.mapRamps f) :=
  ⟨by simp, by simp, by simp, by simp, fun r => by rw [State.mapRamps_ramp]; exact h r⟩

theorem mapChans_kept {s : State} {f : Fin 32 → Channel → Channel} (hd : ∀ c, (f c (s.chan c)).duty = (s.chan c).duty)
    (hs : ∀ c, (f c (s.chan c)).state = .unused ↔ (s.chan c).state = .unused) : s.Kept (s.mapChans f) :=
  ⟨by simp, by simpa using hd, by simpa using hs, by simp, fun r => by rw [State.mapChans_ramp]; exact .refl _ _⟩

theorem mapLanes_kept {s : State} {f : Fin 8 → Lane → Lane} (h : ∀ l, (f l (s.lane l)).ramp = (s.lane l).ramp) :
    s.Kept (s.mapLanes f) :=
  ⟨by simp, by simp, by simp, by simpa using h, fun r => by rw [State.mapLanes_ramp]; exact .refl _ _⟩

theorem setChan_kept {s : State} {c : Fin 32} {x : Channel} (hd : x.duty = (s.chan c).duty)
    (hs : x.state = .unused ↔ (s.chan c).state = .unused) : s.Kept (s.setChan c x) := by
  refine ⟨rfl, fun i => ?_, fun i => ?_, fun _ => rfl, fun _ => .refl _ _⟩
  all_goals
    rw [State.setChan_chan]
    split
    · next e => rw [e]; assumption
    · rfl

theorem setLane_kept {s : State} {l : Fin 8} {x : Lane} (h : x.ramp = (s.lane l).ramp) : s.Kept (s.setLane l x) := by
  refine ⟨rfl, fun _ => rfl, fun _ => Iff.rfl, fun i => ?_, fun _ => .refl _ _⟩
  rw [State.setLane_lane]
  split
  · next e => rw [e, h]
  · rfl

theorem raise_kept (k : FaultKind) (o : ObjectClass) (i d : Nat) (s : State) : s.Kept (raise k o i d s) :=
  .of_records rfl rfl rfl rfl

/-- A list of ramps taken through a change that keeps, one after the other. -/
theorem foldl_kept {f : State → Fin 4 → State} (h : ∀ (s : State) (r : Fin 4), s.Kept (f s r)) (rs : List (Fin 4))
    (s : State) : s.Kept (rs.foldl f s) := by
  induction rs generalizing s with
  | nil => exact .refl s
  | cons r rs ih => exact (h s r).trans (ih (f s r))

/-! ### The shared operations -/

theorem refreshCalls_kept (s : State) (r : Fin 4) : s.Kept (s.refreshCalls r) :=
  setRamp_kept ⟨Iff.rfl, id, id, id⟩

theorem formEntryDegraded_kept (s : State) (r : Fin 4) : s.Kept (s.formEntryDegraded r) :=
  setRamp_kept ⟨Iff.rfl, id, id, id⟩

theorem formCeiling_kept (s : State) (r : Fin 4) : s.Kept (s.formCeiling r) :=
  setRamp_kept ⟨Iff.rfl, id, id, id⟩

theorem hearChannel_kept (s : State) (b : Option (Fin 4)) : s.Kept (s.hearChannel b) := by
  cases b with
  | none => exact .refl s
  | some r => exact (formEntryDegraded_kept s r).trans (refreshCalls_kept _ r)

theorem refreshServed_kept (s : State) (c : Fin 32) : s.Kept (s.refreshServed c) := by
  unfold State.refreshServed; split
  · exact .refl s
  · exact refreshCalls_kept s _

theorem clearQueueTimers_kept (s : State) (r : Fin 4) : s.Kept (s.clearQueueTimers r) :=
  mapChans_kept (fun c => by split <;> rfl) (fun c => by split <;> rfl)

theorem restartSilence_kept (s : State) (r : Fin 4) : s.Kept (s.restartSilence r) :=
  mapChans_kept (fun c => by split <;> rfl) (fun c => by split <;> rfl)

theorem mapMembers_kept {s : State} {f : Lane → Lane} (h : ∀ x, (f x).ramp = x.ramp) (r : Fin 4) :
    s.Kept (s.mapMembers r f) :=
  mapLanes_kept fun l => by split <;> [exact h _; rfl]

/-- The entry to STOPPING of a ramp that is METERING or SUSPENDED (R66). -/
theorem enterStopping_kept {s : State} {r : Fin 4} (h : s.rampRuns r = true) : s.Kept (s.enterStopping r) := by
  rw [rampRuns_iff] at h
  refine (setRamp_kept ⟨?_, ?_, ?_, ?_⟩).trans (mapMembers_kept Lane.stopPath_ramp r)
  · obtain h | h := h <;> simp_all [State.rampState]
  · exact fun ⟨hnamed, _, _⟩ => ⟨hnamed, by simp, by simp⟩
  · exact fun ⟨hrange, _, _⟩ => ⟨hrange, by simp, by simp⟩
  · exact fun ⟨_, _, _, _, _, hset⟩ => ⟨by simp, by simp, by simp, by simp, by simp, hset⟩

end Sys2Proof.Machine

/-! ## Changes of a ramp's state -/

namespace Sys2Proof.Machine

theorem State.Kept.either {p : Prop} [Decidable p] {s t u : State} (h : p → s.Kept t) (g : ¬ p → s.Kept u) :
    s.Kept (if p then t else u) := by
  split
  · next hp => exact h hp
  · next hp => exact g hp

theorem State.Kept.ite {p : Prop} [Decidable p] {s t : State} (h : p → s.Kept t) : s.Kept (if p then t else s) :=
  .either h fun _ => .refl s

/-- The entry to STANDBY of a STOPPING ramp: a pending plan becomes active (R54, R67). -/
theorem enterStandby_kept {s : State} {r : Fin 4} (h : (s.ramp r).ctl.state = .stopping) : s.Kept (s.enterStandby r) := by
  refine (setRamp_kept ⟨?_, ?_, ?_, ?_⟩).trans (clearQueueTimers_kept _ r)
  · simp [h]
  · refine fun ⟨hnamed, _, _⟩ => ⟨fun p hp => hnamed p ?_, by simp, by simp⟩
    simp only [Option.or_eq_some_iff, reduceCtorEq, or_false] at hp
    tauto
  · exact fun ⟨⟨hcap, hpos, hempty, hqueue, _, hcounts⟩, _, _⟩ =>
      ⟨⟨hcap, hpos, hempty, hqueue, Nat.zero_le _, hcounts⟩, by simp, by simp⟩
  · rintro ⟨hover, hsusp, hmin, hhold, hmax, hset⟩
    simp only [h, reduceCtorEq, false_and, imp_false, iff_false] at hover hsusp hhold
    exact ⟨fun o ho => absurd ho (hover o), by simpa using hsusp, hmin, fun hne => absurd hne hhold, hmax, hset⟩

theorem standbyIfOut_kept (s : State) (r : Fin 4) : s.Kept (s.standbyIfOut r) :=
  .ite fun h => enterStandby_kept (of_decide_eq_true (Bool.and_eq_true_iff.1 h).1)

theorem stopRamp_kept (s : State) (r : Fin 4) : s.Kept (s.stopRamp r) :=
  .ite fun h => (enterStopping_kept h).trans (standbyIfOut_kept _ r)

theorem stopIfUnable_kept (s : State) (r : Fin 4) : s.Kept (s.stopIfUnable r) := .ite fun _ => stopRamp_kept s r

theorem refreshRamp_kept (s : State) (r : Fin 4) : s.Kept (s.refreshRamp r) :=
  (((refreshCalls_kept s r).trans (formCeiling_kept _ r)).trans (stopIfUnable_kept _ r)).trans (standbyIfOut_kept _ r)

theorem refreshOf_kept (s : State) (b : Option (Fin 4)) : s.Kept (s.refreshOf b) := by
  cases b with
  | none => exact .refl s
  | some r => exact refreshRamp_kept s r

theorem Lane.light_ramp (supply : Bool) (x : Lane) : (x.light supply).ramp = x.ramp := by
  unfold Lane.light; split <;> rfl

theorem lightMembers_kept (s : State) (r : Fin 4) : s.Kept (s.lightMembers r) :=
  mapMembers_kept (Lane.light_ramp s.lamp.present) r

/-- The entry to METERING with an override and a suspension that are absent (R65). -/
theorem enterMetering_kept {s : State} {r : Fin 4} (h : (s.ramp r).ctl.state ≠ .closed) (rateStart : Nat) :
    s.Kept (s.enterMetering r rateStart) := by
  refine ((((setRamp_kept ⟨?_, ?_, ?_, ?_⟩).trans (clearQueueTimers_kept _ r)).trans (restartSilence_kept _ r)).trans
    (lightMembers_kept _ r)).trans (refreshCalls_kept _ r)
  · simp [h]
  · exact fun ⟨hnamed, _, _⟩ => ⟨hnamed, by simp, by simp⟩
  · exact fun ⟨⟨hcap, hpos, hempty, hqueue, _⟩, _, _⟩ => ⟨⟨hcap, hpos, hempty, hqueue, by simp⟩, by simp, by simp⟩
  · exact fun ⟨_, _, _, _, _, hset⟩ => ⟨by simp, by simp, by simp, by simp, by simp, hset⟩

theorem startRamp_kept {s : State} {r : Fin 4} (h : (s.ramp r).ctl.state ≠ .closed) : s.Kept (s.startRamp r) := by
  unfold State.startRamp; split
  · exact .refl s
  · exact enterMetering_kept h _

/-- The entry to SUSPENDED of a METERING ramp whose hold-off has run out (R75). -/
theorem enterSuspended_kept {s : State} {r : Fin 4} (h : (s.ramp r).ctl.state = .metering)
    (hhold : (s.ramp r).ctl.holdOff = 0) {minutes : Nat} (h1 : 1 ≤ minutes) (h2 : minutes ≤ 120) :
    s.Kept (s.enterSuspended r minutes) := by
  refine (((setRamp_kept ⟨?_, ?_, ?_, ?_⟩).trans (clearQueueTimers_kept _ r)).trans (restartSilence_kept _ r)).trans
    (mapMembers_kept (fun x => by split <;> rfl) r)
  · simp [h]
  · exact fun ⟨hnamed, _, _⟩ => ⟨hnamed, by simp, by simp⟩
  · exact fun ⟨⟨hcap, hpos, hempty, hqueue, _, hcounts⟩, _, _⟩ =>
      ⟨⟨hcap, hpos, hempty, hqueue, Nat.zero_le _, hcounts⟩, by simp, by simp⟩
  · exact fun ⟨_, _, _, _, hmax, hset⟩ =>
      ⟨by simp, by simp, by simp [h1, h2], fun hne => absurd hhold hne, hmax, hset⟩

/-- The return to METERING from SUSPENDED, where no override stands; the hold-off starts (R76, R77). -/
theorem resumeRamp_kept {s : State} {r : Fin 4} (h : (s.ramp r).ctl.state = .suspended) : s.Kept (s.resumeRamp r) := by
  refine ((((setRamp_kept ⟨?_, ?_, ?_, ?_⟩).trans (clearQueueTimers_kept _ r)).trans (restartSilence_kept _ r)).trans
    (mapMembers_kept (fun x => by split <;> rfl) r) |>.trans (lightMembers_kept _ r)).trans (refreshCalls_kept _ r)
  · simp [h]
  · exact fun ⟨hnamed, _, _⟩ => ⟨hnamed, by simp, by simp⟩
  · exact fun ⟨⟨hcap, hpos, hempty, hqueue, _, hcounts⟩, _, _⟩ =>
      ⟨⟨hcap, hpos, hempty, hqueue, Nat.zero_le _, hcounts⟩, by simp, by simp⟩
  · exact fun ⟨hover, _, _, _, _, hset⟩ => ⟨fun o ho => ⟨rfl, (hover o ho).2⟩, by simp, by simp, by simp, hset, hset⟩

/-! ## Overrides, run counters, plan references and hold-off -/

/-- A ramp record without an override is as sound as before. -/
theorem withoutOverride_kept (d : Fin 16 → Bool) (x : Ramp) : x.Kept d { x with ctl := { x.ctl with override := none } } :=
  ⟨Iff.rfl, id, id, fun ⟨_, hrest⟩ => ⟨by simp, hrest⟩⟩

theorem endOverride_kept (s : State) (r : Fin 4) : s.Kept (s.endOverride r) := setRamp_kept (withoutOverride_kept _ _)

theorem cancelOverrides_kept (s : State) : s.Kept s.cancelOverrides :=
  mapRamps_kept fun _ => withoutOverride_kept _ _

theorem setOverride_kept {s : State} {r : Fin 4} (h : (s.ramp r).ctl.state = .metering) {rate minutes : Nat}
    (hrate : 60 ≤ rate ∧ rate ≤ 3600) (hmin : 1 ≤ minutes ∧ minutes ≤ 240) : s.Kept (s.setOverride r rate minutes) := by
  refine setRamp_kept ⟨Iff.rfl, id, id, fun ⟨_, hrest⟩ => ⟨fun o ho => ?_, hrest⟩⟩
  obtain rfl : _ = o := Option.some.inj ho
  exact ⟨h, hrate, hmin⟩

theorem setRuns_kept (s : State) (r : Fin 4) (onRun offRun : Nat) : s.Kept (s.setRuns r onRun offRun) :=
  setRamp_kept ⟨Iff.rfl, id, id, id⟩

theorem clearRuns_kept (before s : State) : s.Kept (before.clearRuns s) :=
  mapRamps_kept fun r => by split <;> [exact .refl _ _; exact ⟨Iff.rfl, id, id, id⟩]

theorem stageReturn_kept (s : State) : s.Kept s.stageReturn :=
  State.Kept.trans (t := { s with sup := { s.sup with stage := .present } }) (.of_records rfl rfl rfl rfl) (clearRuns_kept s _)

/-- The references of RAMP PLAN, on a ramp that is not CLOSED and for a plan that is DEFINED (R55, R72). -/
theorem assign_kept {s : State} {r : Fin 4} {plan : Option (Fin 16)} (h : (s.ramp r).ctl.state ≠ .closed)
    (hp : ∀ p, plan = some p → s.defines p = true) : s.Kept (s.modCtl r (RampControl.assign plan)) := by
  have hctl : (s.ramp r).Kept s.defines { s.ramp r with ctl := (s.ramp r).ctl.assign plan } := by
    unfold RampControl.assign; split
    · next hs => exact ⟨Iff.rfl, fun _ => ⟨by simpa using hp, by simp [hs], by simp⟩, id, id⟩
    · next hs =>
      exact ⟨Iff.rfl, fun ⟨hnamed, _, _⟩ => ⟨fun p hq => hq.elim (hnamed p ∘ .inl) (hp p), by simp [h], by simp [hs]⟩, id, id⟩
  exact setRamp_kept hctl

theorem endHoldOff_kept (s : State) (r : Fin 4) : s.Kept (s.modCtl r fun c => { c with holdOff := 0, holdOffRun := 0 }) :=
  setRamp_kept ⟨Iff.rfl, id, id, fun ⟨hover, hsusp, hmin, _, _, hset⟩ => ⟨hover, hsusp, hmin, by simp, by simp, hset⟩⟩

/-! ## The stored count -/

theorem Queue.enter_inRange {q : Queue} : q.InRange → q.enter.InRange := by
  unfold Queue.enter Queue.InRange satAdd; split <;> simp only [and_imp] <;> intros <;> omega

theorem Queue.leave_inRange {q : Queue} : q.InRange → q.leave.InRange := by
  unfold Queue.leave Queue.InRange satAdd; split <;> simp only [and_imp] <;> intros <;> omega

theorem Queue.raise_inRange {q : Queue} : q.InRange → q.raise.InRange := by
  unfold Queue.raise Queue.InRange satAdd; split <;> simp only [and_imp] <;> intros <;> omega

theorem Queue.drain_inRange {q : Queue} : q.InRange → q.drain.InRange := by
  unfold Queue.drain Queue.InRange satAdd; simp only [and_imp]; intros; split <;> omega

/-- A change of the queue part, while the stored count is kept, that leaves it in range and spill alone (R32). -/
theorem countQueue_kept {s : State} {r : Fin 4} {f : Queue → Queue} (h : (s.rampState r).counts = true)
    (hf : ∀ q : Queue, q.InRange → (f q).InRange) (hspill : ∀ q, (f q).spill = q.spill) : s.Kept (s.modQueue r f) := by
  rw [counts_iff] at h
  refine setRamp_kept ⟨Iff.rfl, id, fun ⟨hrange, _, hs⟩ => ⟨hf _ hrange, fun hm ht => ?_, fun hsp => hs ?_⟩, id⟩
  · exact (h.elim hm ht).elim
  · exact hspill _ ▸ hsp

theorem Queue.enter_spill (q : Queue) : q.enter.spill = q.spill := by unfold Queue.enter; split <;> rfl
theorem Queue.leave_spill (q : Queue) : q.leave.spill = q.spill := by unfold Queue.leave; split <;> rfl
theorem Queue.raise_spill (q : Queue) : q.raise.spill = q.spill := by unfold Queue.raise; split <;> rfl

theorem countVehicle_kept (s : State) (d : Duty) : s.Kept (s.countVehicle d) := by
  cases d with
  | entry r => exact .ite fun h => countQueue_kept h (fun _ => Queue.enter_inRange) Queue.enter_spill
  | passage l =>
    simp only [State.countVehicle]; split
    · exact .refl s
    · exact .ite fun h => countQueue_kept h (fun _ => Queue.leave_inRange) Queue.leave_spill
  | unused | mainline | queue | demand => exact .refl s

/-! ## Channels -/

theorem modChan_kept {s : State} {f : Channel → Channel} (hd : ∀ x, (f x).duty = x.duty) (hs : ∀ x, (f x).state = x.state)
    (c : Fin 32) : s.Kept (s.modChan c f) := setChan_kept (hd _) (by rw [hs])

theorem rewriteChannel_kept {s : State} {c : Fin 32} {x : Channel} (hd : x.duty = (s.chan c).duty)
    (hs : x.state = .unused ↔ (s.chan c).state = .unused) : s.Kept (s.rewriteChannel c x) :=
  ((setChan_kept hd hs).trans (hearChannel_kept _ _)).trans (hearChannel_kept _ _)

theorem failChannel_kept {s : State} {c : Fin 32} (h : (s.chan c).state ≠ .unused) (kind : ChannelFault) :
    s.Kept (s.failChannel c kind) :=
  ((setChan_kept (x := (s.chan c).fail kind) rfl (by simp [Channel.fail, h])).trans (raise_kept _ _ _ _ _)).trans
    (hearChannel_kept _ _)

/-- A channel fails after a change that keeps. -/
theorem State.Kept.failChannel {s t : State} (hk : s.Kept t) {c : Fin 32} (h : (s.chan c).state ≠ .unused)
    (kind : ChannelFault) : s.Kept (t.failChannel c kind) :=
  hk.trans (failChannel_kept (mt (hk.unused c).1 h) kind)

theorem Channel.in_use_of_active {x : Channel} (h : x.isActive = true) : x.state ≠ .unused := by
  rw [(isActive_iff x).1 h]; decide

theorem actuate_kept {s : State} {c : Fin 32} (h : (s.chan c).isActive = true) : s.Kept (s.actuate c) := by
  have hcounted : s.Kept (((s.modChan c Channel.actuate).countVehicle (s.chan c).duty).refreshServed c) :=
    ((setChan_kept (x := (s.chan c).actuate) rfl Iff.rfl).trans (countVehicle_kept _ _)).trans (refreshServed_kept _ c)
  exact .either (fun _ => hcounted.failChannel (Channel.in_use_of_active h) .chatter) fun _ => hcounted

/-! ## Lanes -/

theorem rewriteLane_kept {s : State} {l : Fin 8} {x : Lane} (h : x.ramp = (s.lane l).ramp) : s.Kept (s.rewriteLane l x) :=
  ((setLane_kept h).trans (refreshOf_kept _ _)).trans (refreshOf_kept _ _)

theorem moveLane_kept (s : State) (l : Fin 8) (source : LaneState) (next : Lane → LaneState) :
    s.Kept (s.moveLane l source next) := .ite fun _ => rewriteLane_kept rfl

theorem lockLane_kept (s : State) (l : Fin 8) (cause : LockCause) : s.Kept (s.lockLane l cause) := rewriteLane_kept rfl

theorem lightIfMetering_ramp (s : State) (x : Lane) : (s.lightIfMetering x).ramp = x.ramp := by
  unfold State.lightIfMetering; split <;> [exact Lane.light_ramp _ x; rfl]

theorem Lane.disable_ramp (x : Lane) : x.disable.ramp = x.ramp := by
  unfold Lane.disable
  split <;> [rfl; skip]
  split <;> [rfl; exact Lane.stopPath_ramp _]

theorem grantLane_kept {s : State} {r : Fin 4} (h : s.rampState r = .metering) (l : Fin 8) (rest : List (Fin 8)) :
    s.Kept (s.grantLane r l rest) := by
  have hlisted : s.Kept (s.modSched r fun _ => { waiting := rest, sinceGrant := 0, fresh := false }) :=
    setRamp_kept ⟨Iff.rfl, id, id, id⟩
  have hcounts : ((s.modSched r fun _ => { waiting := rest, sinceGrant := 0, fresh := false }).rampState r).counts = true := by
    rw [counts_iff]; exact .inl (by simpa [State.rampState] using h)
  exact State.Kept.trans
    (.either (fun _ => hlisted) fun _ =>
      hlisted.trans (countQueue_kept hcounts (fun _ => Queue.leave_inRange) Queue.leave_spill))
    (setLane_kept rfl)

/-! ## The interval close -/

theorem afterLatch_kept (s : State) (r : Fin 4) : s.Kept (s.afterLatch r) :=
  State.Kept.trans (t := s.modCtl r fun c => { c with elapsed := 0 }) (setRamp_kept ⟨Iff.rfl, id, id, id⟩)
    (mapChans_kept (fun _ => by split <;> rfl) (fun _ => by split <;> rfl))

theorem formStation_kept (s : State) (r : Fin 4) : s.Kept (s.formStation r) := by
  have hformed {x : Station} : s.Kept (s.modRamp r fun y => { y with station := x }) := setRamp_kept ⟨Iff.rfl, id, id, id⟩
  simp only [State.formStation]; split
  · exact State.Kept.trans hformed (raise_kept _ _ _ _ _)
  · exact hformed

theorem applyPending_kept (s : State) (r : Fin 4) : s.Kept (s.applyPending r) := by
  have hpending (hc : (s.ramp r).ctl.state ≠ .closed) :
      s.Kept (s.modCtl r fun c => { c with active := c.pending.or c.active, pending := none }) := by
    refine setRamp_kept ⟨Iff.rfl, fun ⟨hnamed, _, _⟩ => ⟨fun p hp => hnamed p ?_, fun h => absurd h hc, by simp⟩, id, id⟩
    simp only [Option.or_eq_some_iff, reduceCtorEq, or_false] at hp
    tauto
  unfold State.applyPending; split
  case h_4 | h_5 => exact .refl s
  all_goals next h => exact hpending (by rw [show (s.ramp r).ctl.state = _ from h]; decide)

theorem evaluateSpill_kept {s : State} {r : Fin 4} (h : s.rampState r = .metering) (p : PlanFields) :
    s.Kept (s.evaluateSpill r p) := by
  have hjudged : s.Kept (s.modQueue r fun q => { q with spill := s.spills r p }) :=
    setRamp_kept ⟨Iff.rfl, id, fun ⟨hrange, hz, _⟩ => ⟨hrange, hz, fun _ => h⟩, id⟩
  simp only [State.evaluateSpill]; split
  · exact hjudged.trans (raise_kept _ _ _ _ _)
  · exact hjudged

theorem computeRate_kept (s : State) (r : Fin 4) (p : PlanFields) : s.Kept (s.computeRate r p) :=
  setRamp_kept ⟨Iff.rfl, id, id, id⟩

theorem meterClose_kept (s : State) (r : Fin 4) : s.Kept (s.meterClose r) := by
  unfold State.meterClose; split
  · next h _ => exact (evaluateSpill_kept h _).trans (computeRate_kept _ r _)
  · exact .refl s

theorem automaticStart_kept {s : State} {r : Fin 4} (h : s.rampState r = .standby) (p : PlanFields) :
    s.Kept (s.automaticStart r p) := by
  have hopen : (s.ramp r).ctl.state ≠ .closed := by rw [show (s.ramp r).ctl.state = _ from h]; decide
  exact .either
    (fun _ => .either (fun _ => (startRamp_kept hopen).trans (raise_kept _ _ _ _ _)) fun _ => setRuns_kept s r 0 0)
    fun _ => setRuns_kept s r _ 0

theorem automaticStop_kept (s : State) (r : Fin 4) (p : PlanFields) : s.Kept (s.automaticStop r p) :=
  .either (fun _ => (stopRamp_kept s r).trans (raise_kept _ _ _ _ _)) fun _ => setRuns_kept s r 0 _

theorem activate_kept (s : State) (r : Fin 4) : s.Kept (s.activate r) := by
  unfold State.activate; split <;> [split; exact .refl s]
  · next h _ => exact automaticStart_kept h _
  · exact automaticStop_kept s r _
  · exact setRuns_kept s r 0 0

theorem closeInterval_kept (s : State) (r : Fin 4) : s.Kept (s.closeInterval r) :=
  ((((afterLatch_kept s r).trans (formStation_kept _ r)).trans (applyPending_kept _ r)).trans (meterClose_kept _ r)).trans
    (activate_kept _ r)

end Sys2Proof.Machine

/-! ## The lamps, 10 ms and the command restart -/

namespace Sys2Proof.Machine

/-! ### The Lamp Monitor -/

theorem modLane_kept {s : State} {f : Lane → Lane} (h : ∀ x, (f x).ramp = x.ramp) (l : Fin 8) : s.Kept (s.modLane l f) :=
  setLane_kept (h _)

theorem qualifyConflict_kept (s : State) (l : Fin 8) (r : Fin 4) (detail : Nat) : s.Kept (s.qualifyConflict l r detail) :=
  (((((raise_kept _ _ _ _ s).trans (modLane_kept (by exact fun _ => rfl) l)).trans
    (formCeiling_kept _ r)).trans (mapMembers_kept (by intro x; split <;> rfl) r)).trans (stopRamp_kept _ r)).trans
    (refreshRamp_kept _ r)

theorem Lane.loseSupply_ramp (stopping : Bool) (x : Lane) : (x.loseSupply stopping).ramp = x.ramp := by
  unfold Lane.loseSupply
  split <;> [skip; rfl]
  dsimp only
  split <;> rfl

theorem loseSupply_kept (s : State) : s.Kept s.loseSupply := by
  have hout : s.Kept { s with lamp := { s.lamp with present := false, supplyTimer := 0, lsup := false } } :=
    .of_records rfl rfl rfl rfl
  refine ((hout.trans (mapLanes_kept ?_)).trans (raise_kept _ _ _ _ _)).trans (foldl_kept refreshRamp_kept _ _)
  exact fun l => Lane.loseSupply_ramp _ (s.lane l)

theorem regainSupply_kept (s : State) : s.Kept s.regainSupply := by
  have hback : s.Kept { s with lamp := { s.lamp with present := true, supplyTimer := 0, lsup := true } } :=
    .of_records rfl rfl rfl rfl
  unfold State.regainSupply
  refine hback.trans (mapLanes_kept fun l => ?_)
  split <;> simp only [Lane.enter_ramp, Lane.conflictAnew_ramp]

theorem endSuspicion_kept (s : State) (l : Fin 8) : s.Kept (s.endSuspicion l) := by
  simp only [State.endSuspicion]; split
  · exact (modLane_kept (by exact fun _ => rfl) l).trans (raise_kept _ _ _ _ _)
  · exact ((modLane_kept (by exact fun _ => rfl) l).trans (raise_kept _ _ _ _ _)).trans (refreshCalls_kept _ _)

theorem failRecheck_kept (s : State) (l : Fin 8) : s.Kept (s.failRecheck l) :=
  .either (fun _ => modLane_kept (by exact fun _ => rfl) l) fun _ =>
    ((modLane_kept (by exact fun _ => rfl) l).trans (raise_kept _ _ _ _ _)).trans (lockLane_kept _ l .redLamp)

theorem Lane.judgeConflict_ramp (q : Nat) (x : Lane) : (x.judgeConflict q).ramp = x.ramp := by
  unfold Lane.judgeConflict
  repeat' split
  all_goals rfl

theorem Lane.judgeProving_ramp (x before : Lane) : (x.judgeProving before).ramp = x.ramp := by
  unfold Lane.judgeProving
  repeat' split
  all_goals rfl

theorem Lane.senseChange_ramp (q : Nat) (levels : Lamps) (x : Lane) : (x.senseChange q levels).ramp = x.ramp := by
  unfold Lane.senseChange
  split <;> [rfl; skip]
  split <;> [rfl; rw [Lane.judgeProving_ramp, Lane.judgeConflict_ramp]]

theorem supplyInput_kept (s : State) (high : Bool) : s.Kept (s.supplyInput high) := by
  have hseen : s.Kept { s with lamp := { s.lamp with lsup := high, supplyTimer := 0 } } := .of_records rfl rfl rfl rfl
  unfold State.supplyInput
  split <;> [exact .refl s; skip]
  exact .either (fun _ => hseen.trans (mapLanes_kept fun _ => by unfold Lane.settleAnew; split <;> rfl)) fun _ => hseen

theorem inputChange_kept (s : State) (c : Fin 32) (high : Bool) : s.Kept (s.modChan c (Channel.inputChange high)) :=
  setChan_kept (by unfold Channel.inputChange; split <;> rfl) (by unfold Channel.inputChange; split <;> rfl)

/-! ### Supervision -/

theorem beginStage1_kept (s : State) : s.Kept s.beginStage1 :=
  State.Kept.trans (t := { s with sup := { s.sup with stage := .one, timer := s.sup.t1 * 10 } })
    (.of_records rfl rfl rfl rfl)
    (((cancelOverrides_kept _).trans (clearRuns_kept s _)).trans (raise_kept _ _ _ _ _))

theorem beginStage2_kept (s : State) : s.Kept s.beginStage2 :=
  State.Kept.trans (t := { s with sup := { s.sup with stage := .two, timer := (s.sup.t1 + s.sup.t2) * 10 } })
    (.of_records rfl rfl rfl rfl) ((raise_kept _ _ _ _ _).trans (foldl_kept stopRamp_kept _ _))

/-! ### 10 ms -/

theorem Override.sample_range {o : Override} (h : 1 ≤ o.minutes ∧ o.minutes ≤ 240) :
    o.sample.rate = o.rate ∧ 1 ≤ o.sample.minutes ∧ o.sample.minutes ≤ 240 := by
  unfold Override.sample
  split <;> [exact ⟨rfl, h⟩; skip]
  split <;> [skip; exact ⟨rfl, h⟩]
  refine ⟨rfl, ?_⟩
  dsimp only; omega

theorem Suspension.sample_range {x : Suspension} (h : 1 ≤ x.minutes ∧ x.minutes ≤ 120) :
    1 ≤ x.sample.minutes ∧ x.sample.minutes ≤ 120 := by
  unfold Suspension.sample
  split <;> [exact h; skip]
  split <;> [skip; exact h]
  dsimp only; omega

/-- 10 ms keep an override, a suspension remaining and a hold-off in their ranges (R74, R76, R77). -/
theorem sampleRamp_kept (s : State) (tick : Bool) (r : Fin 4) (d : Fin 16 → Bool) (x : Ramp) :
    x.Kept d (s.sampleRamp tick r x) := by
  rw [sampleRamp_eq]
  refine ⟨Iff.rfl, id, id, fun ⟨hover, hsusp, hmin, hhold, hmax, hset⟩ =>
    ⟨fun o ho => ?_, ?_, fun p hp => ?_, fun h => hhold ?_, ?_, hset⟩⟩
  · obtain ⟨o, ho', rfl⟩ := Option.map_eq_some_iff.1 ho
    obtain ⟨hm, hrate, hminutes⟩ := hover o ho'
    obtain ⟨hsame, hrange⟩ := Override.sample_range hminutes
    exact ⟨hm, hsame ▸ hrate, hrange⟩
  · simpa using hsusp
  · obtain ⟨p, hp', rfl⟩ := Option.map_eq_some_iff.1 hp
    exact Suspension.sample_range (hmin p hp')
  · rintro hzero
    simp [hzero] at h
  · dsimp only
    split <;> omega

theorem advance_kept (s : State) : s.Kept s.advance := by
  cases h : s.resetting with
  | true => rw [advance_resetting h]; exact .refl s
  | false =>
    have hlane (l : Fin 8) : (s.advance.lane l).ramp = (s.lane l).ramp := by
      rw [advance_lane h, (Lane.sample_spec _ _ _).1]
    exact ⟨State.plan_congr (by rw [advance_eq]), fun c => by rw [advance_chan h]; rfl,
      fun c => by rw [advance_chan h]; rfl, hlane, fun r => by rw [advance_ramp h]; exact sampleRamp_kept s _ r _ _⟩

/-! ## Full-reset values and the command restart -/

theorem PlanFields.free_inRange : PlanFields.free.InRange := by simp [PlanFields.InRange, PlanFields.free]

theorem Ramp.fullReset_plansOk (d : Fin 16 → Bool) : Ramp.fullReset.PlansOk d := by
  simp [Ramp.PlansOk, Ramp.fullReset, RampControl.fullReset]

theorem Ramp.fullReset_queueOk : Ramp.fullReset.QueueOk := by
  simp [Ramp.QueueOk, Queue.InRange, Ramp.fullReset, RampControl.fullReset, Queue.fullReset]

theorem Ramp.fullReset_optionsOk : Ramp.fullReset.OptionsOk := by
  simp [Ramp.OptionsOk, Ramp.fullReset, RampControl.fullReset]

theorem Channel.restart_duty (x : Channel) : x.restart.duty = x.duty := by rw [Channel.restart_eq]; rfl

theorem Channel.restart_unused (x : Channel) : x.restart.state = .unused ↔ x.state = .unused := by
  rw [Channel.restart_eq]; dsimp only; split
  · rfl
  · next h => simpa using fun hu => h (.inl hu)

theorem commandRestart_kept (s : State) : s.Kept s.commandRestart := by
  refine ⟨State.plan_congr (by rw [commandRestart_eq]),
    fun c => by rw [commandRestart_chan, Channel.restart_duty], fun c => by rw [commandRestart_chan, Channel.restart_unused],
    fun l => by rw [commandRestart_lane]; rfl, fun r => ?_⟩
  rw [commandRestart_ramp]; split
  · next h =>
    exact ⟨by rw [show (s.ramp r).ctl.state = _ from h]; simp [Ramp.fullReset, RampControl.fullReset],
      fun _ => Ramp.fullReset_plansOk _, fun _ => Ramp.fullReset_queueOk, fun _ => Ramp.fullReset_optionsOk⟩
  · next h =>
    refine ⟨by simpa [State.rampState] using h,
      fun ⟨hnamed, _, _⟩ => ⟨fun p hp => hnamed p (.inl ?_), by simp, by simp [RampControl.fullReset]⟩,
      fun ⟨⟨hcap, hpos, hempty, hqueue, _⟩, _, _⟩ => ⟨⟨hcap, hpos, hempty, hqueue, ?_⟩, ?_, ?_⟩,
      fun ⟨_, _, _, _, _, hset⟩ => ?_⟩
    · simpa [RampControl.fullReset] using hp
    · simp [Queue.fullReset]
    · simp [Queue.fullReset]
    · simp [Queue.fullReset]
    · simpa [Ramp.OptionsOk, RampControl.fullReset] using hset

end Sys2Proof.Machine

/-! # The requests that configure -/

namespace Sys2Proof.Machine

theorem State.KeepsSound.refl (s : State) : s.KeepsSound s := ⟨id, id, id, id⟩

theorem clampTo_range {lo hi : Nat} (h : lo ≤ hi) (x : Nat) : lo ≤ clampTo lo hi x ∧ clampTo lo hi x ≤ hi := by
  unfold clampTo; omega

theorem clampTo_zero_le (hi x : Nat) : clampTo 0 hi x ≤ hi := (clampTo_range (Nat.zero_le hi) x).2

/-! ## The Plan Table -/

/-- A candidate plan that passes the structural check lies in the ranges of R50. -/
theorem PlanFields.candidate_inRange {p : PlanFields} (h : p.candidate.sound = true) : p.candidate.InRange := by
  have hbounds : p.candidate.rateMin ≤ p.candidate.rateMax ∧ p.candidate.offOcc < p.candidate.onOcc := by
    simpa [PlanFields.sound] using h
  clear h
  unfold PlanFields.candidate PlanFields.clampSecond at *
  split at hbounds
  · next hle =>
    rw [if_pos hle]
    exact ⟨clampTo_range (by decide) _, clampTo_range (by decide) _, clampTo_range (by decide) _,
      clampTo_range (by decide) _, clampTo_range hle _, clampTo_range hle _, clampTo_range (by decide) _,
      clampTo_range (by decide) _, clampTo_zero_le _ _, clampTo_zero_le _ _, clampTo_range (by decide) _,
      clampTo_zero_le _ _, clampTo_range (by decide) _, clampTo_zero_le _ _, hbounds⟩
  · next hle => exact absurd hbounds.1 hle

/-- A plan without references is named by no ramp (R53). -/
theorem unnamed_of_references {s : State} {p : Fin 16} (h : s.references p = 0) (r : Fin 4) :
    ¬ ((s.ramp r).ctl.active = some p ∨ (s.ramp r).ctl.pending = some p) := by
  simp only [State.references, Nat.add_eq_zero_iff, List.countP_eq_zero, List.mem_finRange, true_implies,
    decide_eq_true_eq] at h
  exact not_or.2 ⟨h.1 r, h.2 r⟩

/-- A plan record in range is written, and no ramp loses the plan it names. -/
theorem setPlan_keepsSound {s : State} {p : Fin 16} {x : Plan}
    (hx : x.fields.InRange ∧ (x.defined = false → x.fields = PlanFields.free))
    (hd : x.defined = true ∨ s.references p = 0) : s.KeepsSound (s.setPlan p x) := by
  refine ⟨fun ⟨htable, hnamed, hrest⟩ => ⟨fun q => ?_, fun r q hq => ?_, hrest⟩, id, id, id⟩
  · rw [State.setPlan_plan]; split
    · exact hx
    · exact htable q
  · rw [State.setPlan_plan]; split
    · next e => exact hd.resolve_right fun hzero => unnamed_of_references hzero r (e ▸ hq)
    · exact hnamed r q hq

theorem servePlanWrite_keepsSound (sent : PlanFields) (p : Fin 16) (s : State) :
    s.KeepsSound (servePlanWrite sent p s).state := by
  unfold servePlanWrite; split
  · next h => exact setPlan_keepsSound ⟨PlanFields.candidate_inRange h, by simp⟩ (.inl rfl)
  · exact .refl s

theorem servePlanRetire_keepsSound (p : Fin 16) (s : State) : s.KeepsSound (servePlanRetire p s).state := by
  unfold servePlanRetire; split
  · next h => exact setPlan_keepsSound ⟨PlanFields.free_inRange, fun _ => rfl⟩ (.inr h)
  · exact .refl s

/-! ## The configuration of a channel -/

/-- A channel takes a new duty, UNUSED exactly when its role is, whose bound ramp or lane there is (R3, R19). -/
theorem setDuty_keepsSound {s : State} {c : Fin 32} {x : Channel} (hd : s.dutyDefined x.duty = true)
    (hu : x.state = .unused ↔ x.duty = .unused) : s.KeepsSound (s.setChan c x) := by
  refine ⟨id, fun ⟨hchan, hlane, hmembers, hunused⟩ => ⟨fun i hi => ?_, hlane, hmembers, fun i => ?_⟩, id, id⟩
  · by_cases hic : i = c
    · subst hic
      rw [State.setChan_chan_self] at hi
      have hbound : (s.setChan i x).boundRamp i = s.rampOfDuty x.duty := by
        rw [State.boundRamp, State.setChan_chan_self]; rfl
      rw [hbound, show (s.setChan i x).rampState = s.rampState from rfl]
      cases hx : x.duty with
      | unused => exact absurd hx hi
      | mainline r | entry r | queue r => exact ⟨r, rfl, by simpa [State.dutyDefined, hx] using hd⟩
      | demand l | passage l =>
        obtain ⟨r, hr⟩ : ∃ r, (s.lane l).ramp = some r := by
          simpa [State.dutyDefined, hx, Option.isSome_iff_exists] using hd
        exact ⟨r, hr, hlane l r hr⟩
    · rw [State.setChan_chan_ne s c i x hic] at hi
      have hbound : (s.setChan c x).boundRamp i = s.boundRamp i := by
        rw [State.boundRamp, State.setChan_chan_ne s c i x hic]; rfl
      exact hbound ▸ hchan i hi
  · rw [State.setChan_chan]; split
    · exact hu
    · exact hunused i

theorem serveDetectorConfigure_keepsSound (role binding : Byte) (t : ChannelTimings) (c : Fin 32) (s : State) :
    s.KeepsSound (serveDetectorConfigure role binding t c s).state := by
  by_cases hp : (s.chan c).state = .parked
  · rw [serveDetectorConfigure_parked hp]; exact .refl s
  cases hd : dutyOf role binding with
  | error e => rw [serveDetectorConfigure_error hp hd]; exact .refl s
  | ok d =>
    cases hu : s.dutyDefined d with
    | false => rw [serveDetectorConfigure_undefined hp hd hu]; exact .refl s
    | true =>
      rw [serveDetectorConfigure_accepted hp hd hu]
      have hwritten : s.KeepsSound (s.setChan c ((s.chan c).configure d t.clamp)) := by
        rw [configure_eq]
        exact setDuty_keepsSound hu (by simp)
      exact hwritten.trans ((hearChannel_kept _ _).trans (hearChannel_kept _ _)).keepsSound

/-! ## The configuration of a lane -/

theorem mem_members (s : State) (r : Fin 4) (l : Fin 8) : l ∈ s.members r ↔ (s.lane l).ramp = some r := by
  simp [State.members]

theorem members_nodup (s : State) (r : Fin 4) : (s.members r).Nodup := (List.nodup_finRange 8).filter _

theorem length_members_le {t : State} {r : Fin 4} {ls : List (Fin 8)} (h : t.members r ⊆ ls) :
    (t.members r).length ≤ ls.length := (List.subperm_of_subset (members_nodup t r) h).length_le

/-- Nothing is bound to a lane that holds no channel (R128). -/
theorem duty_of_unheld {s : State} {l : Fin 8} (h : s.laneHeld l = false) (c : Fin 32) :
    (s.chan c).duty ≠ .demand l ∧ (s.chan c).duty ≠ .passage l := by
  simpa using List.any_eq_false.1 h c (List.mem_finRange c)

/-- A lane that no channel is bound to takes a new ramp, or none: one that is not CLOSED and has room (R128). -/
theorem rebind_keepsSound {s : State} {l : Fin 8} {x : Lane} (hbar : s.bindingBar l x.ramp = none)
    (hnew : (s.lane l).ramp ≠ x.ramp) (hheld : s.laneHeld l = false) : s.KeepsSound (s.setLane l x) := by
  have hroom (r : Fin 4) (hr : x.ramp = some r) : s.rampState r ≠ .closed ∧ (s.members r).length < 4 := by
    rw [hr] at hbar hnew
    simp only [State.bindingBar] at hbar
    split at hbar <;> [simp at hbar; skip]
    next hopen => exact ⟨hopen, by simpa [hnew] using hbar⟩
  refine ⟨id, fun ⟨hchan, hlane, hmembers, hunused⟩ => ⟨fun c hc => ?_, fun i r hi => ?_, fun r => ?_, hunused⟩, id, id⟩
  · obtain ⟨hdemand, hpassage⟩ := duty_of_unheld hheld c
    have hbound : (s.setLane l x).boundRamp c = s.boundRamp c := by
      simp only [State.boundRamp, State.setLane_chan]
      cases hd : (s.chan c).duty with
      | unused | mainline | entry | queue => rfl
      | demand i => exact congrArg Lane.ramp (State.setLane_lane_ne s l i x fun e => hdemand (e ▸ hd))
      | passage i => exact congrArg Lane.ramp (State.setLane_lane_ne s l i x fun e => hpassage (e ▸ hd))
    obtain ⟨r, hr, hr'⟩ := hchan c hc
    exact ⟨r, hbound ▸ hr, hr'⟩
  · rw [State.setLane_lane] at hi
    split at hi
    · exact (hroom r hi).1
    · exact hlane i r hi
  · by_cases hr : x.ramp = some r
    · have hsub : (s.setLane l x).members r ⊆ l :: s.members r := by
        intro i hi
        rw [mem_members, State.setLane_lane] at hi
        split at hi
        · next e => exact e ▸ List.mem_cons_self
        · exact List.mem_cons_of_mem l ((mem_members s r i).2 hi)
      have hlen := length_members_le hsub
      have hlt := (hroom r hr).2
      rw [List.length_cons] at hlen
      omega
    · have hsub : (s.setLane l x).members r ⊆ s.members r := by
        intro i hi
        rw [mem_members, State.setLane_lane] at hi
        split at hi
        · exact absurd hi hr
        · exact (mem_members s r i).2 hi
      exact (length_members_le hsub).trans (hmembers r)

theorem Lane.configure_ramp (b : Option (Fin 4)) (t : LaneTimings) (x : Lane) : (x.configure b t).ramp = b := by
  unfold Lane.configure; dsimp only; split <;> rfl

theorem serveLaneConfigure_keepsSound (ramp : Byte) (t : LaneTimings) (l : Fin 8) (s : State) :
    s.KeepsSound (serveLaneConfigure ramp t l s).state := by
  unfold serveLaneConfigure
  split <;> [exact .refl s; skip]
  next b _ =>
  split <;> [exact .refl s; skip]
  split <;> [exact .refl s; skip]
  next hbar =>
  split <;> [exact .refl s; skip]
  next hheld =>
  split <;> [exact .refl s; skip]
  have hwritten : s.KeepsSound (s.setLane l ((s.lane l).configure b t.clamp)) := by
    by_cases hsame : (s.lane l).ramp = b
    · exact (setLane_kept (by rw [Lane.configure_ramp, hsame])).keepsSound
    · refine rebind_keepsSound ?_ ?_ (by simpa [hsame] using hheld) <;> rwa [Lane.configure_ramp]
  exact hwritten.trans ((refreshOf_kept _ _).trans (refreshOf_kept _ _)).keepsSound

/-! ## The configuration of a ramp -/

/-- A STANDBY ramp takes new settings, clamped (R33, R61). -/
theorem configure_kept (d : Fin 16 → Bool) (p : RampSettings) {x : Ramp} (h : x.ctl.state = .standby) :
    x.Kept d (x.configure p.clamp) := by
  refine ⟨Iff.rfl, id, fun ⟨⟨_, _, _, _, _, hcounts⟩, hstored, hspill⟩ => ⟨⟨?_, ?_, ?_, ?_, ?_, hcounts⟩, hstored, hspill⟩,
    fun ⟨hover, hsusp, hmin, hhold, hmax, _⟩ => ⟨hover, hsusp, hmin, hhold, hmax, clampTo_zero_le _ _⟩⟩
  · exact clampTo_range (by decide) _
  · exact clampTo_range ((clampTo_range (by decide) _).1.trans' (by decide)) _
  · exact clampTo_range (by decide) _
  · exact clampTo_range (by decide) _
  · show x.queue.stored ≤ _
    rw [hstored (by simp [h]) (by simp [h])]
    exact Nat.zero_le _

/-- A ramp record is written that is sound on its own. -/
theorem setRamp_keepsSound {s : State} {r : Fin 4} {x : Ramp} (hp : x.PlansOk s.defines) (hq : x.QueueOk)
    (ho : x.OptionsOk) (hb : s.BindingsSound → (s.setRamp r x).BindingsSound) : s.KeepsSound (s.setRamp r x) := by
  refine ⟨fun h => ?_, hb, fun h i => ?_, fun h i => ?_⟩
  · rw [plansSound_iff] at h ⊢
    refine ⟨h.1, fun i => ?_⟩
    rw [State.setRamp_ramp]; split
    · exact hp
    · exact h.2 i
  · show ((s.setRamp r x).ramp i).QueueOk
    rw [State.setRamp_ramp]; split
    · exact hq
    · exact h i
  · show ((s.setRamp r x).ramp i).OptionsOk
    rw [State.setRamp_ramp]; split
    · exact ho
    · exact h i

/-- RAMP CONFIGURE of a CLOSED ramp (R61). -/
theorem openRamp_keepsSound (s : State) (r : Fin 4) (p : RampSettings) : s.KeepsSound (s.openRamp r p.clamp) := by
  have hkept := configure_kept s.defines p
    (x := { Ramp.fullReset with ctl := { RampControl.fullReset with state := .standby } }) rfl
  have hopened := setRamp_keepsSound (s := s) (r := r)
    (hkept.plans (by simp [Ramp.PlansOk, RampControl.fullReset]))
    (hkept.queue (by simp [Ramp.QueueOk, Ramp.fullReset, Queue.InRange, Queue.fullReset]))
    (hkept.options (by simp [Ramp.OptionsOk, RampControl.fullReset]))
    (keepsBindings (fun _ => rfl) (fun _ => Iff.rfl) (fun _ => rfl) fun i hi => by
      simp only [State.rampState, State.setRamp_ramp] at hi ⊢
      split at hi
      · exact absurd hi (by simp [Ramp.configure])
      · exact hi)
  exact hopened.trans ((formEntryDegraded_kept _ r).trans (formCeiling_kept _ r)).keepsSound

theorem restartInterval_kept (s : State) (r : Fin 4) : s.Kept (s.restartInterval r) :=
  State.Kept.trans (t := s.modCtl r fun c => { c with elapsed := 0 }) (setRamp_kept ⟨Iff.rfl, id, id, id⟩)
    (mapChans_kept (by intro c; split <;> rfl) (by intro c; split <;> rfl))

theorem serveRampConfigure_keepsSound (p : RampSettings) (r : Fin 4) (s : State) :
    s.KeepsSound (serveRampConfigure p r s).state := by
  unfold serveRampConfigure; split
  · exact openRamp_keepsSound s r p
  · next h =>
    have hwritten : s.Kept (s.modRamp r (Ramp.configure p.clamp)) := setRamp_kept (configure_kept _ p h)
    exact (State.Kept.either (fun _ => hwritten) fun _ => hwritten.trans (restartInterval_kept _ r)).keepsSound
  all_goals exact .refl s

/-- No lane and no channel is bound to a ramp that is not held (R62). -/
theorem unbound_of_unheld {s : State} {r : Fin 4} (h : s.rampHeld r = false) :
    s.members r = [] ∧ ∀ c, s.boundRamp c ≠ some r := by
  simpa [State.rampHeld] using h

theorem serveRampClose_keepsSound (r : Fin 4) (s : State) : s.KeepsSound (serveRampClose r s).state := by
  unfold serveRampClose
  split <;> [exact .refl s; skip]
  split <;> [exact .refl s; skip]
  next h =>
  obtain ⟨hmembers, hbound⟩ := unbound_of_unheld (Bool.not_eq_true _ ▸ h)
  have hopen {i : Fin 4} (hne : i ≠ r) (hi : s.rampState i ≠ .closed) : (s.setRamp r Ramp.fullReset).rampState i ≠ .closed := by
    simpa [State.rampState, State.setRamp_ramp, hne] using hi
  refine setRamp_keepsSound (Ramp.fullReset_plansOk _) Ramp.fullReset_queueOk Ramp.fullReset_optionsOk ?_
  rintro ⟨hchan, hlane, hrest⟩
  refine ⟨fun c hc => ?_, fun l i hl => hopen ?_ (hlane l i hl), hrest⟩
  · obtain ⟨i, hi, hi'⟩ := hchan c hc
    exact ⟨i, hi, hopen (fun e => hbound c (e ▸ hi)) hi'⟩
  · rintro rfl
    exact List.not_mem_nil (hmembers ▸ (mem_members s i l).2 hl)

end Sys2Proof.Machine

/-! # Every command keeps the plans, the bindings and the ramps sound -/

namespace Sys2Proof.Machine

/-! ## Full resets -/

/-- At full-reset values nothing is bound, named or counted (R1, R31, R47, R59, R110). -/
theorem fullReset_keepsSound (s : State) (kinds causes : ResetKinds) :
    s.KeepsSound ((s.fullReset kinds).setCauses causes) := by
  have hchan (c : Fin 32) : ((s.fullReset kinds).setCauses causes).chan c = Channel.fullReset (s.chan c).input := by
    simp [State.chan, State.setCauses, State.fullReset]
  have hplan (p : Fin 16) : ((s.fullReset kinds).setCauses causes).plan p = Plan.free := by
    simp [State.plan, State.setCauses, State.fullReset]
  have hramp (r : Fin 4) : ((s.fullReset kinds).setCauses causes).ramp r = Ramp.fullReset := by
    simp [State.ramp, State.setCauses, State.fullReset]
  have hlane (l : Fin 8) : (((s.fullReset kinds).setCauses causes).lane l).ramp = none := by
    simp [State.lane, State.setCauses, State.fullReset, Lane.fullReset]
  refine ⟨fun _ => (plansSound_iff _).2 ⟨fun p => ?_, fun r => hramp r ▸ Ramp.fullReset_plansOk _⟩, fun _ => ?_,
    fun _ r => (hramp r ▸ Ramp.fullReset_queueOk :), fun _ r => (hramp r ▸ Ramp.fullReset_optionsOk :)⟩
  · rw [hplan]
    exact ⟨PlanFields.free_inRange, fun _ => rfl⟩
  · refine ⟨fun c hc => ?_, fun l r hl => ?_, fun r => ?_, fun c => ?_⟩
    · rw [hchan] at hc
      exact absurd rfl hc
    · rw [hlane] at hl
      exact absurd hl (by simp)
    · simp [State.members, hlane]
    · rw [hchan]
      simp [Channel.fullReset]

/-! ## How a command keeps them -/

/-- Whatever state the outcome hands on, the invariants pass to it. -/
def State.KeepsSoundIn (s : State) (o : Host.Outcome State Fault Refusal) : Prop :=
  ∀ t, o = .next t → s.KeepsSound t

theorem next_keeps {s t : State} (h : s.KeepsSound t) : s.KeepsSoundIn (.next t) := by
  rintro u ⟨⟩; exact h

theorem event_keeps {f : State → State} {s : State} (h : s.Kept (f s)) : s.KeepsSoundIn (event f s) :=
  next_keeps (State.Kept.either (fun _ => .refl s) fun _ => h).keepsSound

theorem finish_kept (armed : Bool) (v : Served) : v.state.Kept (v.finish armed) := .of_records rfl rfl rfl rfl

theorem missFrame_kept (s : State) : s.Kept s.missFrame := .ite fun _ => .of_records rfl rfl rfl rfl

theorem request_keeps {armed : Bool} {serve : State → Served} {s : State} (h : s.KeepsSound (serve s).state) :
    s.KeepsSoundIn (request armed serve s) := by
  refine next_keeps ?_
  split
  · exact h.trans (finish_kept armed _).keepsSound
  · exact (missFrame_kept s).keepsSound

section ByNumber
variable {s : State} {b : Byte}

theorem withChannel_keeps {serve : Fin 32 → State → Served} (h : ∀ c, s.KeepsSound (serve c s).state) :
    s.KeepsSound (withChannel b serve s).state := by
  unfold withChannel; split <;> [exact .refl s; exact h _]

theorem withPlan_keeps {serve : Fin 16 → State → Served} (h : ∀ p, s.KeepsSound (serve p s).state) :
    s.KeepsSound (withPlan b serve s).state := by
  unfold withPlan; split <;> [exact .refl s; exact h _]

theorem withRamp_keeps {serve : Fin 4 → State → Served} (h : ∀ r, s.KeepsSound (serve r s).state) :
    s.KeepsSound (withRamp b serve s).state := by
  unfold withRamp; split <;> [exact .refl s; exact h _]

theorem withLane_keeps {serve : Fin 8 → State → Served} (h : ∀ l, s.KeepsSound (serve l s).state) :
    s.KeepsSound (withLane b serve s).state := by
  unfold withLane; split <;> [exact .refl s; exact h _]

end ByNumber

/-! ## Requests of the link, of supervision and of the part as a whole -/

theorem serveSetLock_kept (kind : Byte) (s : State) : s.Kept (serveSetLock kind s).state := by
  unfold serveSetLock
  repeat' split
  all_goals exact .of_records rfl rfl rfl rfl

theorem serveRestart_kept (s : State) : s.Kept (serveRestart s).state := by
  unfold serveRestart
  repeat' split
  all_goals exact .of_records rfl rfl rfl rfl

theorem serveLampSettings_kept (qualify recheckN : Nat) (s : State) :
    s.Kept (serveLampSettings qualify recheckN s).state := by
  unfold serveLampSettings
  split <;> exact .of_records rfl rfl rfl rfl

theorem hostAlive_kept (token : Byte) (s : State) : s.Kept (s.hostAlive token) := by
  have htimed : s.Kept
      { s with sup := { s.sup with lastToken := token, firstMark := false, timer := 0, keptAlive := true } } :=
    .of_records rfl rfl rfl rfl
  exact htimed.trans (stageReturn_kept _)

theorem serveKeepalive_kept (token : Byte) (s : State) : s.Kept (serveKeepalive token s).state := by
  unfold serveKeepalive
  split <;> [exact .refl s; skip]
  split <;> [exact hostAlive_kept token s; exact .refl s]

theorem serveSupervisionSet_kept (enable t1 : Byte) (t2 : Half) (s : State) :
    s.Kept (serveSupervisionSet enable t1 t2 s).state := by
  have hset : s.Kept { s with sup := s.sup.set (enable = 1) t1.toNat t2.toNat } := .of_records rfl rfl rfl rfl
  unfold serveSupervisionSet
  split <;> [exact .refl s; skip]
  split <;> [exact .refl s; exact hset.trans (stageReturn_kept _)]

theorem riseOfCs_kept (s : State) : s.Kept s.riseOfCs := by
  unfold State.riseOfCs
  repeat' split
  all_goals exact .of_records rfl rfl rfl rfl

theorem fallOfCs_kept (s : State) : s.Kept s.fallOfCs := by
  have hup : s.Kept (if s.link.phase = .idle then s else s.riseOfCs) :=
    .either (fun _ => .refl s) fun _ => riseOfCs_kept s
  exact .either (fun _ => hup.trans (.of_records rfl rfl rfl rfl)) fun _ => missFrame_kept s

/-! ## Requests of the channels, the lanes and the ramps -/

theorem serveDetectorPark_kept (c : Fin 32) (s : State) : s.Kept (serveDetectorPark c s).state := by
  unfold serveDetectorPark; split
  case h_1 | h_2 => exact .refl s
  all_goals next h => exact rewriteChannel_kept rfl (by simp [h])

theorem serveDetectorUnpark_kept (c : Fin 32) (s : State) : s.Kept (serveDetectorUnpark c s).state := by
  unfold serveDetectorUnpark; split
  case h_4 h => exact rewriteChannel_kept rfl (by simp [h, Channel.activate])
  all_goals exact .refl s

theorem serveDetectorRestore_kept (c : Fin 32) (s : State) : s.Kept (serveDetectorRestore c s).state := by
  unfold serveDetectorRestore; split
  case h_4 h => exact rewriteChannel_kept rfl (by simp [h, Channel.activate])
  all_goals exact .refl s

theorem serveLaneEnable_kept (l : Fin 8) (s : State) : s.Kept (serveLaneEnable l s).state := by
  unfold serveLaneEnable
  split <;> [exact .refl s; skip]
  split <;> [exact .refl s; skip]
  split <;> [exact .refl s; skip]
  split <;> [exact .refl s; exact rewriteLane_kept (lightIfMetering_ramp s _)]

theorem serveLaneRestore_kept (l : Fin 8) (s : State) : s.Kept (serveLaneRestore l s).state := by
  unfold serveLaneRestore
  split <;> [exact rewriteLane_kept (lightIfMetering_ramp s _); exact .refl s]

theorem serveRampPlan_kept (plan : Byte) (r : Fin 4) (s : State) : s.Kept (serveRampPlan plan r s).state := by
  unfold serveRampPlan
  split <;> [exact .refl s; skip]
  split <;> [exact .refl s; skip]
  next hopen =>
  split <;> [exact .refl s; skip]
  next hnamed =>
  exact assign_kept hopen fun p hp => by simpa [hp, State.planNamed, State.defines] using hnamed

theorem serveRampMode_kept (mode : Byte) (r : Fin 4) (s : State) : s.Kept (serveRampMode mode r s).state := by
  unfold serveRampMode
  split <;> [exact .refl s; skip]
  split <;> [exact .refl s; skip]
  next m _ =>
  have hmode : s.Kept (s.modCtl r fun c => { c with mode := m }) := setRamp_kept ⟨Iff.rfl, id, id, id⟩
  exact hmode.trans (clearRuns_kept s _)

theorem serveRampStart_kept (r : Fin 4) (s : State) : s.Kept (serveRampStart r s).state := by
  unfold serveRampStart
  split <;> [exact .refl s; skip]
  next h =>
  split <;> [exact .refl s; skip]
  have hstandby : (s.ramp r).ctl.state = .standby := not_not.1 h
  exact startRamp_kept (by rw [hstandby]; decide)

theorem serveRampStop_kept (r : Fin 4) (s : State) : s.Kept (serveRampStop r s).state := by
  unfold serveRampStop
  split <;> [exact .refl s; exact stopRamp_kept s r]

theorem serveRampOverride_kept (rate minutes : Nat) (r : Fin 4) (s : State) :
    s.Kept (serveRampOverride rate minutes r s).state := by
  unfold serveRampOverride
  split <;> [exact .refl s; skip]
  next h =>
  split <;> [exact .refl s; skip]
  exact setOverride_kept (not_not.1 h) (clampTo_range (by decide) _) (clampTo_range (by decide) _)

theorem serveRampSuspend_kept (minutes : Nat) (r : Fin 4) (s : State) : s.Kept (serveRampSuspend minutes r s).state := by
  unfold serveRampSuspend
  split <;> [exact .refl s; skip]
  next h =>
  split <;> [exact .refl s; skip]
  next hhold =>
  split <;> [exact .refl s; skip]
  obtain ⟨h1, h2⟩ := clampTo_range (show 1 ≤ 120 by decide) minutes
  exact enterSuspended_kept (not_not.1 h) (not_not.1 hhold) h1 h2

theorem serveRampResume_kept (r : Fin 4) (s : State) : s.Kept (serveRampResume r s).state := by
  unfold serveRampResume
  split <;> [skip; exact .refl s]
  next h => exact resumeRamp_kept h

end Sys2Proof.Machine

/-! ## Events of the channels, the ramps and the lanes -/

namespace Sys2Proof.Machine

section ChannelEvents
variable (c : Fin 32) (s : State)

theorem actuation_keeps : s.KeepsSoundIn (execActuation c s) :=
  event_keeps (.ite fun h => actuate_kept (by simp only [Bool.and_eq_true] at h; exact h.1.1))

theorem qualifiedFallingEdge_keeps : s.KeepsSoundIn (execQualifiedFallingEdge c s) :=
  event_keeps (.ite fun _ => (modChan_kept (by exact fun _ => rfl) (by exact fun _ => rfl) c).trans (refreshServed_kept _ c))

theorem acquisition_keeps : s.KeepsSoundIn (execAcquisition c s) :=
  event_keeps (.ite fun _ => (modChan_kept (by exact fun _ => rfl) (by exact fun _ => rfl) c).trans (refreshServed_kept _ c))

theorem stuckOnExpiry_keeps : s.KeepsSoundIn (execStuckOnExpiry c s) :=
  event_keeps (.ite fun h => (modChan_kept (by exact fun _ => rfl) (by exact fun _ => rfl) c).failChannel
    (Channel.in_use_of_active (Bool.and_eq_true_iff.1 h).1) .stuckOn)

theorem silenceExpiry_keeps : s.KeepsSoundIn (execSilenceExpiry c s) :=
  event_keeps (.ite fun h => (modChan_kept (by exact fun _ => rfl) (by exact fun _ => rfl) c).failChannel
    (Channel.in_use_of_active ((isActive_iff _).2 ((silenceRuns_iff s c).1 h).1)) .silent)

theorem chatterWindowEnd_keeps : s.KeepsSoundIn (execChatterWindowEnd c s) :=
  event_keeps (.ite fun _ => modChan_kept (by exact fun _ => rfl) (by exact fun _ => rfl) c)

theorem correctQueue_kept {r : Fin 4} (h : s.queueRuns c r = true) : s.Kept (s.correctQueue c r) := by
  have hcounts : (s.rampState r).counts = true := (Bool.and_eq_true_iff.1 h).2
  have htimed : s.Kept
      (s.modChan c fun x => { x with queueTimer := (s.ramp r).queue.queueCheck * 10, served := true }) :=
    modChan_kept (by exact fun _ => rfl) (by exact fun _ => rfl) c
  exact htimed.trans (countQueue_kept hcounts (fun _ => Queue.raise_inRange) Queue.raise_spill)

theorem queueCorrection_keeps : s.KeepsSoundIn (execQueueCorrection c s) := by
  refine event_keeps ?_
  cases (s.chan c).duty with
  | queue r => exact .ite fun h => correctQueue_kept c s h
  | unused | mainline | entry | demand | passage => exact .refl s

end ChannelEvents

section RampEvents
variable (r : Fin 4) (s : State)

theorem emptyCorrection_keeps : s.KeepsSoundIn (execEmptyCorrection r s) := by
  refine event_keeps (.ite fun h => countQueue_kept ?_ (fun _ => Queue.drain_inRange) fun _ => rfl)
  simp only [State.emptyRuns, Bool.and_eq_true, decide_eq_true_eq] at h
  exact (counts_iff _).2 (.inl h.1.1.1)

theorem intervalClose_keeps : s.KeepsSoundIn (execIntervalClose r s) :=
  event_keeps (.either (fun _ => .refl s) fun _ => closeInterval_kept s r)

theorem overrideExpiry_keeps : s.KeepsSoundIn (execOverrideExpiry r s) := event_keeps (endOverride_kept s r)

theorem suspensionExpiry_keeps : s.KeepsSoundIn (execSuspensionExpiry r s) :=
  event_keeps (.ite fun h => resumeRamp_kept h)

theorem holdOffEnd_keeps : s.KeepsSoundIn (execHoldOffEnd r s) := event_keeps (.ite fun _ => endHoldOff_kept s r)

theorem grant_keeps : s.KeepsSoundIn (execGrant r s) := by
  refine event_keeps ?_
  split <;> [exact .refl s; skip]
  refine .ite fun h => grantLane_kept ?_ _ _
  simp only [Bool.and_eq_true, decide_eq_true_eq] at h
  exact h.1.1

end RampEvents

section LaneEvents
variable (l : Fin 8) (s : State)

theorem moveLane_keeps (source : LaneState) (next : State → Lane → LaneState) :
    s.KeepsSoundIn (event (fun s => s.moveLane l source (next s)) s) := event_keeps (moveLane_kept s l source (next s))

theorem provingClear_keeps : s.KeepsSoundIn (execProvingClear l s) :=
  event_keeps (.ite fun _ => moveLane_kept s l _ _)

theorem provingWindowEnd_keeps : s.KeepsSoundIn (execProvingWindowEnd l s) :=
  event_keeps (.ite fun _ => (raise_kept _ _ _ _ _).trans (lockLane_kept _ l .outputStuck))

theorem senseSettleEnd_keeps : s.KeepsSoundIn (execSenseSettleEnd l s) :=
  event_keeps (modLane_kept (by exact fun _ => rfl) l)

theorem redSuspectOnset_keeps : s.KeepsSoundIn (execRedSuspectOnset l s) := by
  refine event_keeps (.ite fun _ => ?_)
  split <;> [exact .refl s; exact (modLane_kept (by exact fun _ => rfl) l).trans (refreshCalls_kept _ _)]

theorem redRecheck_keeps : s.KeepsSoundIn (execRedRecheck l s) :=
  event_keeps (.either (fun _ => .refl s) fun _ =>
    .either (fun _ => modLane_kept (by exact fun _ => rfl) l) fun _ =>
      .either (fun _ => endSuspicion_kept s l) fun _ => failRecheck_kept s l)

theorem conflictQualified_keeps : s.KeepsSoundIn (execConflictQualified l s) := by
  refine event_keeps ?_
  split <;> [exact qualifyConflict_kept s l _ _; exact .refl s]

theorem auxLampOut_keeps : s.KeepsSoundIn (execAuxLampOut l s) :=
  event_keeps (.ite fun _ => (modLane_kept (by exact fun _ => rfl) l).trans (raise_kept _ _ _ _ _))

theorem lampSenseChange_keeps (red amber green : Bool) : s.KeepsSoundIn (execLampSenseChange l red amber green s) := by
  refine next_keeps (modLane_kept (fun x => ?_) l).keepsSound
  split <;> [rfl; exact Lane.senseChange_ramp _ _ x]

end LaneEvents

section PartEvents
variable (s : State)

theorem supplyLoss_keeps : s.KeepsSoundIn (execSupplyLoss s) := event_keeps (.ite fun _ => loseSupply_kept s)

theorem supplyReturn_keeps : s.KeepsSoundIn (execSupplyReturn s) :=
  event_keeps (.either (fun _ => .refl s) fun _ => regainSupply_kept s)

theorem stage1Onset_keeps : s.KeepsSoundIn (execStage1Onset s) := event_keeps (.ite fun _ => beginStage1_kept s)

theorem stage2Onset_keeps : s.KeepsSoundIn (execStage2Onset s) := event_keeps (.ite fun _ => beginStage2_kept s)

end PartEvents

/-! ## Every command -/

/-- Each command by its own arm: a read and a request of the link change no record, a request that configures keeps the
invariants, and every other command is a change that keeps. -/
theorem exec_keeps (i : Instr) (s : State) : s.KeepsSoundIn (exec i s) := by
  unfold exec
  cases i with
  | readCaps | readStatus | faultRead | faultClear | alertMask | clearCauses | restartArm =>
    refine request_keeps (State.Kept.keepsSound ?_)
    exact .of_records rfl rfl rfl rfl
  | keepalive token => exact request_keeps (serveKeepalive_kept token s).keepsSound
  | supervisionSet enable t1 t2 => exact request_keeps (serveSupervisionSet_kept enable t1 t2 s).keepsSound
  | setLock kind => exact request_keeps (serveSetLock_kept kind s).keepsSound
  | restart => exact request_keeps (serveRestart_kept s).keepsSound
  | lampSettings qualify recheckN => exact request_keeps (serveLampSettings_kept _ _ s).keepsSound
  | badOpcode opcode =>
    show s.KeepsSoundIn (if _ then _ else _)
    split <;> [exact fun _ h => nomatch h; exact request_keeps (.refl s)]
  | commandRestart => exact next_keeps (State.Kept.ite fun _ => commandRestart_kept s).keepsSound
  | powerUpReset | pinReset | clockLossReset => exact next_keeps (fullReset_keepsSound s _ _)
  | resetEnd =>
    refine next_keeps ?_
    split <;> [exact fullReset_keepsSound s _ _; exact .refl s]
  | frameBegin => exact next_keeps (fallOfCs_kept s).keepsSound
  | shortFrame => exact next_keeps (riseOfCs_kept s).keepsSound
  | detectorConfigure =>
    exact request_keeps (withChannel_keeps fun c => serveDetectorConfigure_keepsSound _ _ _ c s)
  | detectorRead => exact request_keeps (withChannel_keeps fun _ => .refl s)
  | detectorPark => exact request_keeps (withChannel_keeps fun c => (serveDetectorPark_kept c s).keepsSound)
  | detectorUnpark => exact request_keeps (withChannel_keeps fun c => (serveDetectorUnpark_kept c s).keepsSound)
  | detectorRestore => exact request_keeps (withChannel_keeps fun c => (serveDetectorRestore_kept c s).keepsSound)
  | planWrite => exact request_keeps (withPlan_keeps fun p => servePlanWrite_keepsSound _ p s)
  | planRead => exact request_keeps (withPlan_keeps fun _ => .refl s)
  | planRetire => exact request_keeps (withPlan_keeps fun p => servePlanRetire_keepsSound p s)
  | rampConfigure => exact request_keeps (withRamp_keeps fun r => serveRampConfigure_keepsSound _ r s)
  | rampRead => exact request_keeps (withRamp_keeps fun _ => .refl s)
  | rampPlan => exact request_keeps (withRamp_keeps fun r => (serveRampPlan_kept _ r s).keepsSound)
  | rampStart => exact request_keeps (withRamp_keeps fun r => (serveRampStart_kept r s).keepsSound)
  | rampStop => exact request_keeps (withRamp_keeps fun r => (serveRampStop_kept r s).keepsSound)
  | rampSuspend => exact request_keeps (withRamp_keeps fun r => (serveRampSuspend_kept _ r s).keepsSound)
  | rampResume => exact request_keeps (withRamp_keeps fun r => (serveRampResume_kept r s).keepsSound)
  | rampOverride => exact request_keeps (withRamp_keeps fun r => (serveRampOverride_kept _ _ r s).keepsSound)
  | rampOverrideCancel => exact request_keeps (withRamp_keeps fun r => (endOverride_kept s r).keepsSound)
  | rampClose => exact request_keeps (withRamp_keeps fun r => serveRampClose_keepsSound r s)
  | rampMode => exact request_keeps (withRamp_keeps fun r => (serveRampMode_kept _ r s).keepsSound)
  | laneConfigure => exact request_keeps (withLane_keeps fun l => serveLaneConfigure_keepsSound _ _ l s)
  | laneRead => exact request_keeps (withLane_keeps fun _ => .refl s)
  | laneEnable => exact request_keeps (withLane_keeps fun l => (serveLaneEnable_kept l s).keepsSound)
  | laneDisable => exact request_keeps (withLane_keeps fun l => (rewriteLane_kept (Lane.disable_ramp (s.lane l))).keepsSound)
  | laneRestore => exact request_keeps (withLane_keeps fun l => (serveLaneRestore_kept l s).keepsSound)
  | actuation c => exact actuation_keeps c s
  | qualifiedFallingEdge c => exact qualifiedFallingEdge_keeps c s
  | acquisition c => exact acquisition_keeps c s
  | stuckOnExpiry c => exact stuckOnExpiry_keeps c s
  | silenceExpiry c => exact silenceExpiry_keeps c s
  | chatterWindowEnd c => exact chatterWindowEnd_keeps c s
  | queueCorrection c => exact queueCorrection_keeps c s
  | emptyCorrection r => exact emptyCorrection_keeps r s
  | intervalClose r => exact intervalClose_keeps r s
  | overrideExpiry r => exact overrideExpiry_keeps r s
  | suspensionExpiry r => exact suspensionExpiry_keeps r s
  | holdOffEnd r => exact holdOffEnd_keeps r s
  | grant r => exact grant_keeps r s
  | provingClear l => exact provingClear_keeps l s
  | provingWindowEnd l => exact provingWindowEnd_keeps l s
  | startAmberExpiry l | minRedExpiry l | greenExpiry l | amberExpiry l | flushExpiry l =>
    exact moveLane_keeps l s _ _
  | senseSettleEnd l => exact senseSettleEnd_keeps l s
  | redSuspectOnset l => exact redSuspectOnset_keeps l s
  | redRecheck l => exact redRecheck_keeps l s
  | conflictQualified l => exact conflictQualified_keeps l s
  | auxLampOut l => exact auxLampOut_keeps l s
  | supplyLoss => exact supplyLoss_keeps s
  | supplyReturn => exact supplyReturn_keeps s
  | stage1Onset => exact stage1Onset_keeps s
  | stage2Onset => exact stage2Onset_keeps s
  | detectorInputChange c high => exact next_keeps (inputChange_kept s c high).keepsSound
  | lampSenseChange l red amber green => exact lampSenseChange_keeps l s red amber green
  | lampSupplyInputChange high => exact next_keeps (supplyInput_kept s high).keepsSound

/-- Settles O56: the front command, or with none waiting an event due or 10 ms. -/
theorem plansBindingsAndRampsStaySound : Obligations.PlansBindingsAndRampsStaySound := by
  intro s t h
  have hstep : s.KeepsSoundIn (step s) := by
    cases hp : s.pending with
    | cons c rest =>
      rw [step, hp]
      exact fun u hu => (State.Kept.of_records rfl rfl rfl rfl).keepsSound.trans (exec_keeps c { s with pending := rest } u hu)
    | nil =>
      obtain ⟨hnone, hone, hmore⟩ := step_idle hp
      match hd : s.due with
      | [] => exact hnone hd ▸ next_keeps (advance_kept s).keepsSound
      | [e] => exact hone e hd ▸ exec_keeps e s
      | _ :: _ :: _ =>
        obtain ⟨e, -, he⟩ := hmore (by simp [hd])
        rw [he]
        exact fun u hu => (State.Kept.of_records rfl rfl rfl rfl).keepsSound.trans
          (exec_keeps e { s with choices := s.choices + 1 } u hu)
  exact hstep t h

end Sys2Proof.Machine

/-! # What a ramp does when an event of its lanes is handed on -/

namespace Sys2Proof.Machine

@[simp] theorem State.setRamp_setRamp (s : State) (r : Fin 4) (x y : Ramp) :
    (s.setRamp r x).setRamp r y = s.setRamp r y := by
  simp [State.setRamp]

/-! ## The parts of the hearing -/

/-- The rate part at a ceiling formed anew: cut to it while the ramp runs and exceeds it (R83). -/
theorem newCeiling_eq (running : Bool) (c : Nat) (x : Rate) :
    x.newCeiling running c =
      if running = true ∧ 1 ≤ c ∧ c < x.final then
        { x with ceiling := c, final := c, headway := ceilDiv 36000 c, decision := .cap }
      else { x with ceiling := c } := by
  simp only [Rate.newCeiling, Bool.and_eq_true, decide_eq_true_eq, and_assoc]; rfl

/-- A ceiling formed anew as it stands, over a rate that it does not cut, changes nothing. -/
theorem newCeiling_same {running : Bool} {x : Rate} (h : running = true → x.final ≤ x.ceiling) :
    x.newCeiling running x.ceiling = x := by
  rw [newCeiling_eq, if_neg fun ⟨hruns, _, hcut⟩ => Nat.not_lt.2 (h hruns) hcut]

theorem formCeiling_eq (s : State) (r : Fin 4) :
    s.formCeiling r =
      s.setRamp r ((s.ramp r).handRate ((s.ramp r).rate.newCeiling (s.rampRuns r) (s.ceilingOf r))) := rfl

/-- Ramp `r` once it has heard an event of its lanes, before it is judged whether it stops: its list, its timer and mark, and
its ceiling are formed anew. -/
def State.heard (s : State) (r : Fin 4) : State :=
  s.setRamp r
    (((s.ramp r).handRate ((s.ramp r).rate.newCeiling (s.rampRuns r) (s.ceilingOf r))).reformed s r)

@[simp] theorem heard_chan (s : State) (r : Fin 4) : (s.heard r).chan = s.chan := rfl
@[simp] theorem heard_lane (s : State) (r : Fin 4) : (s.heard r).lane = s.lane := rfl
@[simp] theorem heard_rampState (s : State) (r : Fin 4) : (s.heard r).rampState = s.rampState := setRamp_rampState rfl

theorem heard_ramp (s : State) (r i : Fin 4) :
    (s.heard r).ramp i =
      if i = r then
        ((s.ramp r).handRate ((s.ramp r).rate.newCeiling (s.rampRuns r) (s.ceilingOf r))).reformed s r
      else s.ramp i := by
  rw [State.heard, State.setRamp_ramp]

theorem rampRuns_congr {s t : State} (h : t.rampState = s.rampState) : t.rampRuns = s.rampRuns := by
  funext r; simp only [State.rampRuns, h]

/-- The handing over of a rate part, with what the Scheduler takes of it (R100, R107). -/
theorem handRate_eq (q : Rate) (x : Ramp) :
    x.handRate q = { x with rate := q, sched := x.sched.handed x.rate.headway q.headway } := by
  rw [← handRate_sched]; rfl

/-- The forming anew of a ramp's list, timer and mark reads nothing of a rate part handed over. -/
theorem handRate_reformed (s : State) (r : Fin 4) (q : Rate) (x : Ramp) :
    (x.reformed s r).handRate q = (x.handRate q).reformed s r := by
  simp only [handRate_eq, Ramp.reformed, Scheduler.handed]
  by_cases h : x.sched.fresh = true ∧ q.headway ≠ x.rate.headway
  · simp only [if_pos h]
  · simp only [if_neg h]

/-- The two formings of a hearing, one after the other. -/
theorem refreshCalls_formCeiling (s : State) (r : Fin 4) : (s.refreshCalls r).formCeiling r = s.heard r := by
  rw [formCeiling_eq, refreshCalls_ramp, if_pos rfl, rampRuns_congr (refreshCalls_rampState s r),
    ceilingOf_congr (refreshCalls_lane s r), handRate_reformed, refreshCalls_eq, State.setRamp_setRamp]
  rfl

theorem refreshRamp_eq (s : State) (r : Fin 4) :
    s.refreshRamp r = ((s.heard r).stopIfUnable r).standbyIfOut r := by
  rw [← refreshCalls_formCeiling]; rfl

/-! ## The judgements of a hearing -/

/-- A STOPPING ramp with nothing left on the display enters STANDBY (R67). -/
theorem standbyIfOut_out {s : State} {r : Fin 4} (h : s.rampState r = .stopping) (hout : EveryLaneOut s r) :
    s.standbyIfOut r = s.enterStandby r := by
  simp [State.standbyIfOut, h, (allOut_iff s r).2 hout]

theorem standbyIfOut_still {s : State} {r : Fin 4} (h : s.rampState r ≠ .stopping ∨ ¬ EveryLaneOut s r) :
    s.standbyIfOut r = s := by
  rw [← allOut_iff] at h
  refine if_neg fun hc => ?_
  simp only [Bool.and_eq_true, decide_eq_true_eq] at hc
  exact h.elim (· hc.1) (· hc.2)

/-- A ramp judged once is not moved by the same judgement again. -/
theorem standbyIfOut_standbyIfOut (s : State) (r : Fin 4) : (s.standbyIfOut r).standbyIfOut r = s.standbyIfOut r := by
  by_cases h : s.rampState r = .stopping ∧ EveryLaneOut s r
  · rw [standbyIfOut_out h.1 h.2]
    exact standbyIfOut_still (.inl (by simp [State.rampState, enterStandby_ramp]))
  · rw [standbyIfOut_still (not_and_or.1 h), standbyIfOut_still (not_and_or.1 h)]

/-- The stop of a METERING or SUSPENDED ramp holds its own judgement of STANDBY. -/
theorem stopRamp_running {s : State} {r : Fin 4} (h : s.rampRuns r = true) :
    s.stopRamp r = (s.enterStopping r).standbyIfOut r := if_pos h

theorem stopIfUnable_unable {s : State} {r : Fin 4} (h : s.ableLanes r = []) : s.stopIfUnable r = s.stopRamp r := by
  simp [State.stopIfUnable, h]

/-- A ramp that does not run, or has an able lane, is not stopped (R68). -/
theorem stopIfUnable_still {s : State} {r : Fin 4} (h : s.rampRuns r = true → s.ableLanes r ≠ []) :
    s.stopIfUnable r = s := by
  by_cases ha : s.ableLanes r = []
  · rw [stopIfUnable_unable ha, stopRamp_still (by simpa using fun hruns => h hruns ha)]
  · simp [State.stopIfUnable, ha]

/-- A running ramp without an able lane is stopped (R68). -/
theorem refreshRamp_unable {s : State} {r : Fin 4} (hruns : s.rampRuns r = true) (h : s.ableLanes r = []) :
    s.refreshRamp r = (s.heard r).stopRamp r := by
  have hruns' : (s.heard r).rampRuns r = true := by rw [rampRuns_congr (heard_rampState s r), hruns]
  rw [refreshRamp_eq, stopIfUnable_unable (by rw [ableLanes_congr (heard_lane s r), h]), stopRamp_running hruns',
    standbyIfOut_standbyIfOut]

/-- Any other ramp is judged for STANDBY alone. -/
theorem refreshRamp_able {s : State} {r : Fin 4} (h : s.rampRuns r = true → s.ableLanes r ≠ []) :
    s.refreshRamp r = (s.heard r).standbyIfOut r := by
  rw [refreshRamp_eq, stopIfUnable_still]
  rwa [rampRuns_congr (heard_rampState s r), ableLanes_congr (heard_lane s r)]

theorem not_rampRuns {s : State} {r : Fin 4} (h : s.rampState r ≠ .metering ∧ s.rampState r ≠ .suspended) :
    s.rampRuns r = false := by
  rw [← Bool.not_eq_true, rampRuns_iff]; exact not_or.2 h

theorem everyLaneOut_heard (s : State) (r i : Fin 4) : EveryLaneOut (s.heard r) i ↔ EveryLaneOut s i := Iff.rfl

/-- A STOPPING ramp with nothing left on the display hears and enters STANDBY (R67). -/
theorem refreshRamp_out {s : State} {r : Fin 4} (h : s.rampState r = .stopping) (hout : EveryLaneOut s r) :
    s.refreshRamp r = (s.heard r).enterStandby r := by
  rw [refreshRamp_able (by simp [not_rampRuns, h]), standbyIfOut_out (by rw [heard_rampState, h]) ((everyLaneOut_heard s r r).2 hout)]

/-- A ramp that neither has lost its last able lane nor is STOPPING with nothing left hears and stays. -/
theorem refreshRamp_stays {s : State} {r : Fin 4} (hable : s.rampRuns r = true → s.ableLanes r ≠ [])
    (h : s.rampState r ≠ .stopping ∨ ¬ EveryLaneOut s r) : s.refreshRamp r = s.heard r := by
  rw [refreshRamp_able hable, standbyIfOut_still (by rwa [heard_rampState, everyLaneOut_heard])]

/-! ## What the lists, the ceiling and the watch read -/

theorem mem_ableLanes (s : State) (r : Fin 4) (l : Fin 8) :
    l ∈ s.ableLanes r ↔ (s.lane l).ramp = some r ∧ (s.lane l).able = true := by
  simp [State.ableLanes, mem_members]

theorem calls_iff (s : State) (r : Fin 4) (l : Fin 8) :
    s.calls r l = true ↔ s.rampState r = .metering ∧ (s.lane l).ramp = some r ∧ (s.lane l).state = .redReady
      ∧ (s.lane l).redSuspect = false ∧ s.demand l = true := by
  simp [State.calls, and_assoc]

/-- The watched channels: the ACTIVE QUEUE channels of the ramp and the ACTIVE DEMAND channels of its able lanes (R42). -/
theorem watches_iff (s : State) (r : Fin 4) (c : Fin 32) :
    s.watches r c = true ↔ (s.chan c).state = .active ∧ ((s.chan c).duty = .queue r
      ∨ ∃ l, (s.chan c).duty = .demand l ∧ (s.lane l).ramp = some r ∧ (s.lane l).able = true) := by
  simp only [State.watches, Bool.and_eq_true, isActive_iff]
  cases (s.chan c).duty <;> simp

theorem watchedOccupied_iff (s : State) (r : Fin 4) :
    s.watchedOccupied r = true ↔
      (∃ c, (s.chan c).duty = .queue r ∧ (s.chan c).state = .active ∧ (s.chan c).occupied = true)
      ∨ ∃ c l, (s.chan c).duty = .demand l ∧ (s.chan c).state = .active ∧ (s.lane l).ramp = some r
          ∧ (s.lane l).able = true ∧ (s.chan c).occupied = true := by
  simp only [State.watchedOccupied, List.any_eq_true, List.mem_finRange, true_and, Bool.and_eq_true, watches_iff]
  constructor
  · rintro ⟨c, ⟨hactive, hqueue | ⟨l, hdemand, hramp, hable⟩⟩, hocc⟩
    · exact .inl ⟨c, hqueue, hactive, hocc⟩
    · exact .inr ⟨c, l, hdemand, hactive, hramp, hable, hocc⟩
  · rintro (⟨c, hqueue, hactive, hocc⟩ | ⟨c, l, hdemand, hactive, hramp, hable, hocc⟩)
    · exact ⟨c, ⟨hactive, .inl hqueue⟩, hocc⟩
    · exact ⟨c, ⟨hactive, .inr ⟨l, hdemand, hramp, hable⟩⟩, hocc⟩

theorem ceilingOf_eq (s : State) (r : Fin 4) :
    s.ceilingOf r =
      min 3600 (((List.finRange 8).filter fun l => (s.lane l).ramp = some r && (s.lane l).able).map fun l =>
        36000 / ((s.lane l).greenTime + (s.lane l).amberTime + (s.lane l).minRed)).sum := by
  simp only [State.ceilingOf, State.ableLanes, State.members, List.filter_filter, Bool.and_comm]
  rfl

/-- The record that a hearing leaves, with the cut of the rate and of the headway handed over written out. -/
theorem heard_eq (s : State) (r : Fin 4) :
    s.heard r = s.setRamp r
      (({ s.ramp r with
        rate :=
          if s.rampRuns r = true ∧ 1 ≤ s.ceilingOf r ∧ s.ceilingOf r < (s.ramp r).rate.final then
            { (s.ramp r).rate with
              ceiling := s.ceilingOf r, final := s.ceilingOf r, headway := ceilDiv 36000 (s.ceilingOf r)
              decision := .cap }
          else { (s.ramp r).rate with ceiling := s.ceilingOf r }
        sched :=
          if s.rampRuns r = true ∧ 1 ≤ s.ceilingOf r ∧ s.ceilingOf r < (s.ramp r).rate.final then
            (s.ramp r).sched.handed (s.ramp r).rate.headway (ceilDiv 36000 (s.ceilingOf r))
          else (s.ramp r).sched } : Ramp).reformed s r) := by
  rw [State.heard, handRate_eq, newCeiling_eq]
  split
  · rfl
  · simp only [handed_same]

/-- Settles O46: the hearing, and the judgement that follows it by the state of the ramp. -/
theorem rampHearsItsLanes : Obligations.RampHearsItsLanes := by
  intro s r
  simp only [← heard_eq]
  have hstill : s.rampState r ≠ .metering ∧ s.rampState r ≠ .suspended → s.rampRuns r = true → s.ableLanes r ≠ [] :=
    fun h hruns => absurd hruns (by simp [not_rampRuns h])
  refine ⟨fun hruns h => ?_, fun hruns h => ?_, fun h hout => ?_, fun h hout => ?_, fun h => ?_, ceilingOf_eq s r, calls_iff s r,
    watchedOccupied_iff s r, mem_ableLanes s r, rfl, rampRuns_iff s r⟩
  · rw [refreshRamp_unable hruns h]
    exact stopRamp_stopped (by rw [rampRuns_congr (heard_rampState s r), hruns])
  · exact refreshRamp_stays (fun _ => h) (.inl (by obtain h | h := (rampRuns_iff s r).1 hruns <;> simp [h]))
  · rw [refreshRamp_out h hout]
    exact enterStandby_stoodBy _ r
  · exact refreshRamp_stays (hstill (by simp [h])) (.inr hout)
  · exact refreshRamp_stays (hstill (by obtain h | h := h <;> simp [h])) (.inl (by obtain h | h := h <;> simp [h]))

end Sys2Proof.Machine

/-! # Events that take lanes off the display: a ramp stopped with nothing lit, and a qualified conflict -/

namespace Sys2Proof.Machine

/-! ## Changes of channels, ramps and lanes alone -/

/-- Nothing but channels, ramps and lanes moves from `s` to `t`. -/
def RecordsMove (s t : State) : Prop := t = { s with ramps := t.ramps, lanes := t.lanes, channels := t.channels }

theorem RecordsMove.trans {s t u : State} (h : RecordsMove s t) (g : RecordsMove t u) : RecordsMove s u := by
  unfold RecordsMove at *
  rw [h] at g
  exact g

theorem setRamp_recordsMove (s : State) (r : Fin 4) (x : Ramp) : RecordsMove s (s.setRamp r x) := rfl

theorem enterStopping_recordsMove (s : State) (r : Fin 4) : RecordsMove s (s.enterStopping r) := rfl

theorem enterStandby_recordsMove (s : State) (r : Fin 4) : RecordsMove s (s.enterStandby r) := rfl

theorem standbyIfOut_recordsMove (s : State) (r : Fin 4) : RecordsMove s (s.standbyIfOut r) := by
  unfold State.standbyIfOut; split <;> [exact enterStandby_recordsMove s r; rfl]

theorem stopRamp_recordsMove (s : State) (r : Fin 4) : RecordsMove s (s.stopRamp r) := by
  unfold State.stopRamp
  split <;> [exact (enterStopping_recordsMove s r).trans (standbyIfOut_recordsMove _ r); rfl]

theorem refreshRamp_recordsMove (s : State) (r : Fin 4) : RecordsMove s (s.refreshRamp r) := by
  have hstop : RecordsMove (s.heard r) ((s.heard r).stopIfUnable r) := by
    unfold State.stopIfUnable; split <;> [exact stopRamp_recordsMove _ r; rfl]
  rw [refreshRamp_eq]
  exact ((setRamp_recordsMove s r _).trans hstop).trans (standbyIfOut_recordsMove _ r)

/-! ## A ramp that is not METERING hears -/

/-- Outside METERING no lane is called and the empty timer stands at 0 (R42, R101). -/
theorem reformed_idle {t : State} {r : Fin 4} (h : t.rampState r ≠ .metering) (x : Ramp) :
    x.reformed t r =
      { x with sched := { x.sched with waiting := [] }, queue := { x.queue with emptyTimer := 0 } } := by
  have hcalls : ∀ l, t.calls r l = false := by simp [State.calls, h]
  have hempty : t.emptyRuns r = false := by simp [State.emptyRuns, h]
  simp [Ramp.reformed, hcalls, hempty, h]

/-- The record of a ramp that does not run, once it has heard of its lanes: its ceiling is formed, its list is empty and
its empty timer 0. -/
def Ramp.quiet (ceiling : Nat) (x : Ramp) : Ramp :=
  { x with
    rate := { x.rate with ceiling := ceiling }
    sched := { x.sched with waiting := [] }
    queue := { x.queue with emptyTimer := 0 } }

theorem heard_idle {s : State} {r : Fin 4} (h : s.rampRuns r = false) :
    s.heard r = s.setRamp r ((s.ramp r).quiet (s.ceilingOf r)) := by
  have hm : s.rampState r ≠ .metering := fun hm => by simp [(rampRuns_iff s r).2 (.inl hm)] at h
  simp [heard_eq, h, reformed_idle hm, Ramp.quiet]

/-! ## Lanes that are out -/

theorem isOut_iff (x : Lane) : x.isOut = true ↔ x.state = .dark ∨ x.isLocked = true := by simp [Lane.isOut]

/-- A lane that is DARK or FAULT_LOCKED has no stop path to take (R123). -/
theorem stopPath_out {x : Lane} (h : x.isOut = true) : x.stopPath = x := by
  unfold Lane.stopPath; split <;> simp_all [Lane.isOut, Lane.isLocked]

/-- The entry to STOPPING of a ramp with nothing on the display moves no lane. -/
theorem enterStopping_lane_out {s : State} {r : Fin 4} (h : EveryLaneOut s r) : (s.enterStopping r).lane = s.lane := by
  funext l
  rw [enterStopping_lane]
  split
  · next hl => exact stopPath_out (h l hl)
  · rfl

theorem everyLaneOut_congr {s t : State} (h : t.lane = s.lane) (r : Fin 4) : EveryLaneOut t r ↔ EveryLaneOut s r := by
  simp only [EveryLaneOut, h]

/-! ## The stop of a ramp with nothing on the display -/

/-- The Ramp Control part of a ramp that leaves the display: METERING and SUSPENDED pass STOPPING on the way to STANDBY. -/
def RampControl.offDisplay (x : RampControl) : RampControl :=
  match x.state with
  | .metering | .suspended => x.stopping.standing
  | .stopping => x.standing
  | .standby | .closed => x

theorem RampControl.offDisplay_running {x : RampControl} (h : x.state = .metering ∨ x.state = .suspended) :
    x.offDisplay = x.stopping.standing := by
  obtain h | h := h <;> simp [RampControl.offDisplay, h]

theorem RampControl.offDisplay_stopping {x : RampControl} (h : x.state = .stopping) : x.offDisplay = x.standing := by
  simp [RampControl.offDisplay, h]

theorem RampControl.offDisplay_down {x : RampControl} (h : x.state.isUp = false) : x.offDisplay = x := by
  unfold RampControl.offDisplay; cases hs : x.state <;> simp_all [RampState.isUp]

/-- The record of ramp `r` after a stop with nothing on the display, its ceiling formed as `ceiling`. -/
def Ramp.offDisplay (ceiling : Nat) (x : Ramp) : Ramp :=
  { x with
    ctl := x.ctl.offDisplay
    queue :=
      if x.ctl.state.isUp = true then
        { x.queue with stored := 0, spill := false, emptyTimer := 0, armed := false }
      else { x.queue with emptyTimer := 0 }
    rate := { x.rate with ceiling := ceiling }
    sched :=
      { x.sched with
        waiting := [], fresh := !(x.ctl.state = .metering || x.ctl.state = .suspended) && x.sched.fresh } }

/-- Ramp `r` of `s`, with nothing on the display, has been stopped in `t` and stands in STANDBY or CLOSED (R66 to R68). -/
structure OffDisplay (r : Fin 4) (s t : State) : Prop where
  frame : RecordsMove s t
  lane : t.lane = s.lane
  other : ∀ i, i ≠ r → t.ramp i = s.ramp i
  ramp : t.ramp r = (s.ramp r).offDisplay (s.ceilingOf r)
  chan : ∀ c, t.chan c =
    if (s.chan c).duty = .queue r ∧ (s.rampState r).isUp = true then { s.chan c with queueTimer := 0, served := false }
    else s.chan c

/-- A METERING or SUSPENDED ramp passes through STOPPING to STANDBY, and then hears. -/
theorem offDisplay_running {s : State} {r : Fin 4} (h : s.rampRuns r = true) (hout : EveryLaneOut s r) :
    OffDisplay r s ((s.stopRamp r).refreshRamp r) := by
  have hmove := (stopRamp_recordsMove s r).trans (refreshRamp_recordsMove (s.stopRamp r) r)
  obtain ⟨-, uother, uramp, -⟩ := enterStopping_entered s r
  have ulane := enterStopping_lane_out hout
  have uchan := enterStopping_chan s r
  have hstop : s.stopRamp r = (s.enterStopping r).enterStandby r := by
    rw [stopRamp_running h, standbyIfOut_out _ ((everyLaneOut_congr ulane r).2 hout)]
    rw [State.rampState, uramp]; rfl
  rw [hstop] at hmove ⊢
  generalize s.enterStopping r = u at *
  obtain ⟨-, vother, vramp, vchan⟩ := enterStandby_stoodBy u r
  have vlane : (u.enterStandby r).lane = s.lane := (enterStandby_lane u r).trans ulane
  generalize u.enterStandby r = v at *
  have vstate : v.rampState r = .standby := by rw [State.rampState, vramp]; rfl
  have vruns : v.rampRuns r = false := by simp [State.rampRuns, vstate]
  rw [refreshRamp_stays (by simp [vruns]) (.inl (by simp [vstate])), heard_idle vruns] at hmove ⊢
  refine ⟨hmove, vlane, fun i hi => ?_, ?_, fun c => ?_⟩
  · rw [State.setRamp_ramp_ne _ _ _ _ hi, vother i hi, uother i hi]
  · rw [State.setRamp_ramp_self, ceilingOf_congr vlane, vramp, uramp]
    have hctl := (rampRuns_iff s r).1 h
    simp only [Ramp.offDisplay, RampControl.offDisplay_running hctl]
    obtain h | h : (s.ramp r).ctl.state = .metering ∨ (s.ramp r).ctl.state = .suspended := hctl <;>
      simp [Ramp.quiet, h, RampState.isUp]
  · rw [State.setRamp_chan, vchan, uchan]
    obtain h | h := (rampRuns_iff s r).1 h <;> simp [h, RampState.isUp]

/-- A STOPPING ramp hears and enters STANDBY. -/
theorem offDisplay_stopping {s : State} {r : Fin 4} (h : s.rampState r = .stopping) (hout : EveryLaneOut s r) :
    OffDisplay r s ((s.stopRamp r).refreshRamp r) := by
  have hruns : s.rampRuns r = false := by simp [State.rampRuns, h]
  have hstate : (s.ramp r).ctl.state = .stopping := h
  have hmove := refreshRamp_recordsMove s r
  obtain ⟨-, vother, vramp, vchan⟩ := enterStandby_stoodBy (s.heard r) r
  rw [stopRamp_still hruns]
  rw [refreshRamp_out h hout, heard_idle hruns] at *
  refine ⟨hmove, enterStandby_lane _ r, fun i hi => ?_, ?_, fun c => ?_⟩
  · rw [vother i hi, State.setRamp_ramp_ne _ _ _ _ hi]
  · rw [vramp, State.setRamp_ramp_self]
    simp [Ramp.offDisplay, RampControl.offDisplay_stopping hstate, Ramp.quiet, hstate, RampState.isUp]
  · rw [vchan, State.setRamp_chan]; simp [h, RampState.isUp]

/-- A ramp in STANDBY or CLOSED hears and stays. -/
theorem offDisplay_down {s : State} {r : Fin 4} (h : s.rampState r = .standby ∨ s.rampState r = .closed) :
    OffDisplay r s ((s.stopRamp r).refreshRamp r) := by
  have hruns : s.rampRuns r = false := by obtain h | h := h <;> simp [State.rampRuns, h]
  have hstop : s.rampState r ≠ .stopping := by obtain h | h := h <;> simp [h]
  rw [stopRamp_still hruns, refreshRamp_stays (by simp [hruns]) (.inl hstop), heard_idle hruns]
  refine ⟨setRamp_recordsMove s r _, rfl, fun i hi => State.setRamp_ramp_ne _ _ _ _ hi, ?_, fun c => ?_⟩
  · rw [State.setRamp_ramp_self]
    obtain h | h : (s.ramp r).ctl.state = .standby ∨ (s.ramp r).ctl.state = .closed := h <;>
      simp [Ramp.offDisplay, RampControl.offDisplay, Ramp.quiet, h, RampState.isUp]
  · obtain h | h := h <;> simp [h, RampState.isUp]

/-- Everything the stop of a ramp with nothing on the display does, with the hearing that follows it. -/
theorem offDisplay {s : State} {r : Fin 4} (hout : EveryLaneOut s r) :
    OffDisplay r s ((s.stopRamp r).refreshRamp r) := by
  cases h : s.rampState r with
  | metering => exact offDisplay_running ((rampRuns_iff s r).2 (.inl h)) hout
  | suspended => exact offDisplay_running ((rampRuns_iff s r).2 (.inr h)) hout
  | stopping => exact offDisplay_stopping h hout
  | standby => exact offDisplay_down (.inl h)
  | closed => exact offDisplay_down (.inr h)

/-! ## Lanes that keep their able property keep the ceiling -/

/-- The ceiling reads of the lanes their bindings, which of them are able, and their capacities (R82). -/
theorem ceilingOf_of_able {s t : State} (hb : ∀ l, (t.lane l).ramp = (s.lane l).ramp)
    (ha : ∀ l, (t.lane l).able = (s.lane l).able) (hc : ∀ l, (t.lane l).capacity = (s.lane l).capacity) (r : Fin 4) :
    t.ceilingOf r = s.ceilingOf r := by
  simp only [State.ceilingOf, State.ableLanes, members_of_bindings hb, ha, hc]

/-! ## A qualified conflict -/

/-- The part once a conflict has locked lane `l` of ramp `r`, formed the ceiling anew and darkened the other member lanes. -/
def State.conflicted (s : State) (l : Fin 8) (r : Fin 4) (detail : Nat) : State :=
  (((raise .conflict .lane l.val detail s).modLane l (Lane.lockConflict s.lamp.qualify)).formCeiling r).darkenMembers r

theorem qualifyConflict_eq (s : State) (l : Fin 8) (r : Fin 4) (detail : Nat) :
    s.qualifyConflict l r detail = ((s.conflicted l r detail).stopRamp r).refreshRamp r := rfl

section Conflicted
variable (s : State) (l : Fin 8) (r : Fin 4) (detail : Nat)

theorem conflicted_recordsMove : RecordsMove (raise .conflict .lane l.val detail s) (s.conflicted l r detail) := rfl

theorem conflicted_chan : (s.conflicted l r detail).chan = s.chan := by
  simp [State.conflicted, State.darkenMembers, State.mapMembers, formCeiling_eq]

/-- The lane in conflict is locked, and every other member lane that is not locked is DARK (R127, R137). -/
theorem conflicted_lane (i : Fin 8) :
    (s.conflicted l r detail).lane i =
      if i = l then (s.lane l).lockConflict s.lamp.qualify
      else if (s.lane i).ramp = some r ∧ (s.lane i).isLocked = false then (s.lane i).enter .dark else s.lane i := by
  simp only [State.conflicted, State.darkenMembers, State.mapMembers, formCeiling_eq, State.mapLanes_lane,
    State.setRamp_lane, State.modLane_eq, State.setLane_lane, raise_lane]
  by_cases hi : i = l
  · rw [if_pos hi, if_pos hi]
    split <;> rfl
  · rw [if_neg hi, if_neg hi]
    cases (s.lane i).isLocked <;> simp

theorem conflicted_everyLaneOut : EveryLaneOut (s.conflicted l r detail) r := by
  intro i
  rw [conflicted_lane, isOut_iff]
  split
  · exact fun _ => .inr rfl
  · split
    · exact fun _ => .inl rfl
    · next h => exact fun hi => .inr (by simpa [hi] using h)

/-- The darkening leaves the ceiling that the lockout has formed: a lane taken dark is as able as it was (R112, R127). -/
theorem conflicted_ceilingOf :
    (s.conflicted l r detail).ceilingOf r = (s.setLane l ((s.lane l).lockConflict s.lamp.qualify)).ceilingOf r := by
  refine ceilingOf_of_able (fun i => ?_) (fun i => ?_) (fun i => ?_) r <;> rw [conflicted_lane, State.setLane_lane]
  all_goals
    split <;> [rfl; skip]
    split <;> [skip; rfl]
  · rfl
  · next h => exact Lane.enter_able h.2 rfl
  · rfl

/-- The ramp of the lane in conflict takes the ceiling, and the rate cut to it (R83). -/
theorem conflicted_ramp (i : Fin 4) :
    (s.conflicted l r detail).ramp i =
      if i = r then
        (s.ramp r).handRate
          ((s.ramp r).rate.newCeiling (s.rampRuns r) ((s.conflicted l r detail).ceilingOf r))
      else s.ramp i := by
  rw [conflicted_ceilingOf]
  simp only [State.conflicted, State.darkenMembers, State.mapMembers, formCeiling_eq, State.mapLanes_ramp,
    State.setRamp_ramp, State.modLane_eq, State.setLane_ramp, raise_ramp]
  rfl

end Conflicted

/-! ### The command -/

theorem exec_conflictQualified_eq (l : Fin 8) (s : State) :
    exec (.conflictQualified l) s = execConflictQualified l s := rfl

/-- Without a conflict to take the command changes nothing. -/
theorem exec_conflictQualified_none {s : State} {l : Fin 8} (h : (s.lane l).conflictTaken? = none) :
    exec (.conflictQualified l) s = .next s := by
  rw [exec_conflictQualified_eq]
  exact event_still (by simp only [h]; cases (s.lane l).ramp <;> rfl)

theorem exec_conflictQualified {s : State} {l : Fin 8} {r : Fin 4} {detail : Nat} (hs : s.resetting = false)
    (hr : (s.lane l).ramp = some r) (h : (s.lane l).conflictTaken? = some detail) :
    exec (.conflictQualified l) s = .next (((s.conflicted l r detail).stopRamp r).refreshRamp r) := by
  rw [exec_conflictQualified_eq, execConflictQualified, event_running _ hs]
  simp only [hr, h, qualifyConflict_eq]

/-- Settles O51: the lanes as the conflict leaves them, with nothing on the display, and then the stop of such a ramp. -/
theorem conflictQualified : Obligations.ConflictQualified := by
  refine ⟨fun s l r hs hr => ⟨fun h => exec_conflictQualified_none ?_, fun detail h => ?_⟩, fun s l h => ?_⟩
  · refine Option.eq_none_iff_forall_ne_some.2 fun detail ht => ?_
    rw [Lane.conflictTaken_iff] at ht
    obtain h | h | ⟨h, hnot⟩ := h <;> simp_all
  · have hout := offDisplay (conflicted_everyLaneOut s l r detail)
    have hlane := conflicted_lane s l r detail
    have hstate : (s.conflicted l r detail).rampState = s.rampState := by
      funext i; rw [State.rampState, conflicted_ramp]; split <;> simp_all [State.rampState]
    refine ⟨_, exec_conflictQualified hs hr ((Lane.conflictTaken_iff _ _).2 h), ?_⟩
    have hceiling := ceilingOf_congr hout.lane
    obtain ⟨hmove, holane, hother, hramp, hchan⟩ := hout
    have hx := conflicted_ramp s l r detail
    rw [hx, if_pos rfl, ← hceiling] at hramp
    generalize ((s.conflicted l r detail).stopRamp r).refreshRamp r = t at *
    refine ⟨(conflicted_recordsMove s l r detail).trans hmove, fun i hi => ?_, ?_, fun i hi => ?_, ?_, ?_, ?_, ?_, ?_, ?_, ?_,
      fun c => ?_⟩
    · rw [hother i hi, hx, if_neg hi]
    · rw [holane, hlane, if_pos rfl]; rfl
    · rw [holane, hlane, if_neg hi]
    · rw [hramp]; exact fun h => RampControl.offDisplay_running ((rampRuns_iff s r).1 h)
    · rw [hramp]; exact RampControl.offDisplay_stopping
    · rw [hramp]; exact RampControl.offDisplay_down
    · rw [hramp]; rfl
    · rw [hramp]; rfl
    · rw [hramp]
      simp only [Ramp.offDisplay, handRate_rate, newCeiling_eq]
      split <;> rfl
    · rw [hramp]
      simp only [Ramp.offDisplay, handRate_sched, handed_fresh]
      rfl
    · rw [hchan, hstate, conflicted_chan]
  · obtain hs | hr := h
    · rw [exec_conflictQualified_eq]; exact event_resetting _ hs
    · rw [exec_conflictQualified_eq]; exact event_still (by simp only [hr])

end Sys2Proof.Machine

/-! # Loss and return of the lamp supply -/

namespace Sys2Proof.Machine

/-! ## What the loss does to a lane -/

theorem losesSupply_iff (x : Lane) :
    x.losesSupply = true ↔ x.ramp.isSome = true ∧ (x.isLit = true ∨ x.state = .proving) := by simp [Lane.losesSupply]

/-- Everything the loss does to a lane (R125). -/
theorem Lane.loseSupply_eq (stopping : Bool) (x : Lane) :
    x.loseSupply stopping =
      if x.ramp.isSome = true ∧ (x.isLit = true ∨ x.state = .proving) then
        if x.leaving = true ∨ stopping = true then (x.enter .supplyOut).enter .dark else x.enter .supplyOut
      else x := by
  simp only [Lane.loseSupply, ← losesSupply_iff, Bool.or_eq_true]

/-- A lane that is lit or proving is not locked out. -/
theorem unlocked_of_losesSupply {x : Lane} (h : x.losesSupply = true) : x.isLocked = false := by
  rw [losesSupply_iff] at h
  unfold Lane.isLocked
  cases hs : x.state <;> simp_all [Lane.isLit, LaneState.aspect]

@[simp] theorem Lane.loseSupply_capacity (stopping : Bool) (x : Lane) : (x.loseSupply stopping).capacity = x.capacity := by
  rw [Lane.loseSupply_eq]
  split <;> [split <;> rfl; rfl]

/-- A lane that loses the supply is as able as it was: a leaving one was not able, and no lane is locked out. -/
theorem Lane.loseSupply_able (stopping : Bool) (x : Lane) : (x.loseSupply stopping).able = x.able := by
  have hout : x.losesSupply = true → (x.enter .supplyOut).able = x.able := fun h =>
    Lane.enter_able (unlocked_of_losesSupply h) rfl
  have hdark : ((x.enter .supplyOut).enter .dark).able = (x.enter .supplyOut).able := Lane.enter_able rfl rfl
  rw [Lane.loseSupply_eq]
  split
  · next h =>
    have hkept := hout ((losesSupply_iff x).2 h)
    split <;> [exact hdark.trans hkept; exact hkept]
  · rfl

/-- No lane is left in RED_READY on a ramp. -/
theorem Lane.loseSupply_not_redReady (stopping : Bool) {x : Lane} (h : x.ramp.isSome = true) :
    (x.loseSupply stopping).state ≠ .redReady := by
  rw [Lane.loseSupply_eq]
  split
  · split <;> simp
  · next hl => exact fun hs => hl ⟨h, .inl (by simp [Lane.isLit, hs, LaneState.aspect])⟩

/-- A lane that the loss takes from the display has dropped its conflict, also where it goes on to DARK (R138). -/
theorem Lane.loseSupply_conflictMark (stopping : Bool) {x : Lane} (h : x.losesSupply = true) :
    (x.loseSupply stopping).conflictMark = .dropped := by
  rw [Lane.loseSupply_eq, if_pos ((losesSupply_iff x).1 h)]
  split <;> rfl

/-! ## The part at the loss, before its ramps hear of it -/

/-- The supply is OUT, its loss raised, and the lanes have left the display. -/
def State.supplyLost (s : State) : State :=
  raise .supplyLoss .part 255 ((List.finRange 8).countP fun l => (s.lane l).losesSupply)
    (({ s with lamp := { s.lamp with present := false, supplyTimer := 0, lsup := false } } : State).mapLanes fun _ l =>
      l.loseSupply (l.ramp.any fun r => s.rampState r = .stopping))

theorem loseSupply_eq (s : State) : s.loseSupply = s.supplyLost.refreshAll := rfl

section SupplyLost
variable (s : State)

@[simp] theorem supplyLost_ramp : s.supplyLost.ramp = s.ramp := by simp [State.supplyLost]
@[simp] theorem supplyLost_chan : s.supplyLost.chan = s.chan := by simp [State.supplyLost]
@[simp] theorem supplyLost_rampState : s.supplyLost.rampState = s.rampState := by
  funext r; simp only [State.rampState, supplyLost_ramp]

theorem supplyLost_lane (l : Fin 8) :
    s.supplyLost.lane l =
      (s.lane l).loseSupply ((s.lane l).ramp.any fun r => s.rampState r = .stopping) := by
  simp [State.supplyLost]

theorem supplyLost_binding (l : Fin 8) : (s.supplyLost.lane l).ramp = (s.lane l).ramp := by
  rw [supplyLost_lane, Lane.loseSupply_ramp]

theorem supplyLost_ceilingOf (r : Fin 4) : s.supplyLost.ceilingOf r = s.ceilingOf r :=
  ceilingOf_of_able (supplyLost_binding s) (fun l => by rw [supplyLost_lane, Lane.loseSupply_able])
    (fun l => by rw [supplyLost_lane, Lane.loseSupply_capacity]) r

theorem supplyLost_ableLanes (r : Fin 4) : s.supplyLost.ableLanes r = s.ableLanes r := by
  simp only [State.ableLanes, members_of_bindings (supplyLost_binding s), supplyLost_lane, Lane.loseSupply_able]

/-- The loss leaves no lane that a waiting list could hold. -/
theorem supplyLost_calls (r : Fin 4) (l : Fin 8) : s.supplyLost.calls r l = false := by
  rw [← Bool.not_eq_true, calls_iff, supplyLost_binding, supplyLost_lane]
  rintro ⟨-, hr, hstate, -⟩
  exact Lane.loseSupply_not_redReady _ (by simp [hr]) hstate

end SupplyLost

/-! ## Every ramp hears of its lanes -/

/-- What presence is read of a channel stands: its duty, its state and whether it is occupied. -/
def SamePresence (s t : State) : Prop :=
  ∀ c, (t.chan c).duty = (s.chan c).duty ∧ (t.chan c).state = (s.chan c).state ∧ (t.chan c).occupied = (s.chan c).occupied

/-- What a ramp forms anew reads its own state, the lanes and the presence of the channels, and nothing else. -/
theorem reformed_of_presence {s t : State} {r : Fin 4} (hr : t.rampState r = s.rampState r) (hl : t.lane = s.lane)
    (hc : SamePresence s t) (x : Ramp) : x.reformed t r = x.reformed s r := by
  have hduty : ∀ c, (t.chan c).duty = (s.chan c).duty := fun c => (hc c).1
  have hocc : ∀ c, (t.chan c).occupied = (s.chan c).occupied := fun c => (hc c).2.2
  have hactive : ∀ c, (t.chan c).isActive = (s.chan c).isActive := fun c => by simp only [Channel.isActive, (hc c).2.1]
  have hfaulted : ∀ c, (t.chan c).isFaulted = (s.chan c).isFaulted := fun c => by simp only [Channel.isFaulted, (hc c).2.1]
  have hcalls : t.calls r = s.calls r := by
    funext l; simp only [State.calls, State.demand, State.someActive, hr, hl, hduty, hocc, hactive, hfaulted]
  have hwatch : t.watches r = s.watches r := by
    funext c; simp only [State.watches, hduty, hactive, hl]
  have hwatched : t.watchedOccupied r = s.watchedOccupied r := by simp only [State.watchedOccupied, hwatch, hocc]
  have hempty : t.emptyRuns r = s.emptyRuns r := by simp only [State.emptyRuns, hwatch, hwatched, hr, hduty]
  simp only [Ramp.reformed, hcalls, hwatched, hempty, hr]

/-- Ramp `r` hears of its lanes without a change of its ceiling or its rate and without a stop: the ceiling stands, the rate is
not above it, and an able lane is left while it runs. -/
def Calm (s : State) (r : Fin 4) : Prop :=
  (s.ramp r).rate.ceiling = s.ceilingOf r
  ∧ (s.rampRuns r = true → s.ableLanes r ≠ [] ∧ (s.ramp r).rate.final ≤ (s.ramp r).rate.ceiling)

/-- A ramp that hears calmly forms its list, timer and mark anew, and no more. -/
theorem heard_calm {s : State} {r : Fin 4} (h : Calm s r) : s.heard r = s.setRamp r ((s.ramp r).reformed s r) := by
  obtain ⟨hceiling, hruns⟩ := h
  rw [State.heard, ← hceiling, newCeiling_same fun hr => (hruns hr).2, handRate_same rfl]

/-- Ramp `r` is STOPPING with nothing left on the display. -/
def State.leaves (s : State) (r : Fin 4) : Bool := s.rampState r = .stopping && s.allOut r

theorem leaves_iff (s : State) (r : Fin 4) : s.leaves r = true ↔ s.rampState r = .stopping ∧ EveryLaneOut s r := by
  rw [State.leaves, Bool.and_eq_true, allOut_iff, decide_eq_true_eq]

/-- The record that calm hearing leaves a ramp: STANDBY where nothing is left of a STOPPING one (R67), else its own formed
anew. -/
def State.calmed (s : State) (r : Fin 4) : Ramp :=
  if s.leaves r then
    { s.ramp r with
      ctl := (s.ramp r).ctl.standing
      queue := { (s.ramp r).queue with stored := 0, spill := false, emptyTimer := 0, armed := false }
      sched := { (s.ramp r).sched with waiting := [] } }
  else (s.ramp r).reformed s r

/-- The ramps in `done` have heard of their lanes calmly on the way from `s` to `t`, and no other ramp has. -/
structure Calmed (s : State) (done : List (Fin 4)) (t : State) : Prop where
  frame : RecordsMove s t
  lane : t.lane = s.lane
  ramp : ∀ i, t.ramp i = if i ∈ done then s.calmed i else s.ramp i
  chan : ∀ c, t.chan c =
    if ∃ r ∈ done, (s.chan c).duty = .queue r ∧ s.leaves r = true then { s.chan c with queueTimer := 0, served := false }
    else s.chan c

theorem Calmed.refl (s : State) : Calmed s [] s := ⟨rfl, rfl, by simp, by simp⟩

theorem Calmed.presence {s t : State} {done : List (Fin 4)} (h : Calmed s done t) : SamePresence s t := by
  intro c; rw [h.chan]; split <;> exact ⟨rfl, rfl, rfl⟩

/-- One more ramp hears. -/
theorem Calmed.step {s t : State} {done : List (Fin 4)} (h : Calmed s done t) {r : Fin 4} (hr : r ∉ done) (hcalm : Calm s r) :
    Calmed s (r :: done) (t.refreshRamp r) := by
  have hx : t.ramp r = s.ramp r := by rw [h.ramp, if_neg hr]
  have hstate : t.rampState r = s.rampState r := by rw [State.rampState, hx]; rfl
  have hruns : t.rampRuns r = s.rampRuns r := by simp only [State.rampRuns, hstate]
  have hcalm' : Calm t r := by rw [Calm, hx, ceilingOf_congr h.lane, ableLanes_congr h.lane, hruns]; exact hcalm
  have hable : t.rampRuns r = true → t.ableLanes r ≠ [] := fun ht => (hcalm'.2 ht).1
  have hout := everyLaneOut_congr h.lane r
  have hheard : (t.heard r).ramp r = (s.ramp r).reformed s r := by
    rw [heard_calm hcalm', State.setRamp_ramp_self, hx, reformed_of_presence hstate h.lane h.presence]
  have hother : ∀ i, i ≠ r → (t.heard r).ramp i = t.ramp i := fun i hi => by rw [heard_ramp, if_neg hi]
  have hmove := h.frame.trans (refreshRamp_recordsMove t r)
  by_cases hl : s.leaves r = true
  · obtain ⟨hstop, hall⟩ := (leaves_iff s r).1 hl
    obtain ⟨-, vother, vramp, vchan⟩ := enterStandby_stoodBy (t.heard r) r
    rw [refreshRamp_out (hstate.trans hstop) (hout.2 hall)] at hmove ⊢
    refine ⟨hmove, (enterStandby_lane _ r).trans h.lane, fun i => ?_, fun c => ?_⟩
    · by_cases hi : i = r
      · subst hi
        rw [vramp, hheard, reformed_idle (by simp [hstop])]
        simp [State.calmed, hl]
      · rw [vother i hi, hother i hi, h.ramp]; simp [hi]
    · rw [vchan, heard_chan, (h.presence c).1]
      by_cases hq : (s.chan c).duty = .queue r
      · rw [if_pos hq, if_pos ⟨r, List.mem_cons_self, hq, hl⟩, h.chan]; split <;> rfl
      · rw [if_neg hq, h.chan]
        simp only [List.mem_cons, exists_eq_or_imp, hq, false_and, false_or]
  · have hstay : t.rampState r ≠ .stopping ∨ ¬ EveryLaneOut t r := by
      rw [hstate, hout]; exact not_and_or.1 fun hc => hl ((leaves_iff s r).2 hc)
    rw [refreshRamp_stays hable hstay] at hmove ⊢
    refine ⟨hmove, h.lane, fun i => ?_, fun c => ?_⟩
    · by_cases hi : i = r
      · subst hi; rw [hheard]; simp [State.calmed, hl]
      · rw [hother i hi, h.ramp]; simp [hi]
    · rw [heard_chan, h.chan]; simp [hl]

theorem refreshAll_eq (s : State) :
    s.refreshAll = (((s.refreshRamp 0).refreshRamp 1).refreshRamp 2).refreshRamp 3 := by
  rw [State.refreshAll, show List.finRange 4 = [0, 1, 2, 3] by decide]
  simp only [List.foldl_cons, List.foldl_nil]

/-- All ramps hear, one after the other. -/
theorem refreshAll_calmed {s : State} (h : ∀ r, Calm s r) : Calmed s [3, 2, 1, 0] s.refreshAll := by
  rw [refreshAll_eq]
  exact ((((Calmed.refl s).step (by decide) (h 0)).step (by decide) (h 1)).step (by decide) (h 2)).step (by decide) (h 3)

/-- Everything calm hearing does to the Scheduler of a ramp that no lane calls: the list empties. -/
theorem calmed_sched {s : State} {r : Fin 4} (h : ∀ l, s.calls r l = false) :
    (s.calmed r).sched = { (s.ramp r).sched with waiting := [] } := by
  unfold State.calmed
  split <;> simp [Ramp.reformed, h]

theorem calmed_leaves {s : State} {r : Fin 4} (h : s.leaves r = true) :
    s.calmed r =
      { s.ramp r with
        ctl := (s.ramp r).ctl.standing
        queue := { (s.ramp r).queue with stored := 0, spill := false, emptyTimer := 0, armed := false }
        sched := { (s.ramp r).sched with waiting := [] } } := if_pos h

theorem calmed_stays {s : State} {r : Fin 4} (h : ¬ s.leaves r = true) : s.calmed r = (s.ramp r).reformed s r := if_neg h

/-- Once all have heard, a ramp that stays has formed its parts anew as the part then stands. -/
theorem Calmed.reformed {s t : State} {done : List (Fin 4)} (h : Calmed s done t) {r : Fin 4} (hr : r ∈ done)
    (hstay : ¬ s.leaves r = true) : t.ramp r = (s.ramp r).reformed t r := by
  have hramp : t.ramp r = (s.ramp r).reformed s r := by rw [h.ramp, if_pos hr, calmed_stays hstay]
  have hstate : t.rampState r = s.rampState r := by rw [State.rampState, hramp]; rfl
  rw [hramp, reformed_of_presence hstate h.lane h.presence]

theorem Calmed.chan_leaves {s t : State} {done : List (Fin 4)} (h : Calmed s done t) {r : Fin 4} (hr : r ∈ done)
    (hl : s.leaves r = true) {c : Fin 32} (hq : (s.chan c).duty = .queue r) :
    t.chan c = { s.chan c with queueTimer := 0, served := false } := by rw [h.chan, if_pos ⟨r, hr, hq, hl⟩]

theorem Calmed.chan_stays {s t : State} {done : List (Fin 4)} (h : Calmed s done t) {c : Fin 32}
    (hc : ∀ r, (s.chan c).duty = .queue r → ¬ s.leaves r = true) : t.chan c = s.chan c := by
  rw [h.chan, if_neg fun ⟨r, _, hq, hl⟩ => hc r hq hl]

/-- Under the metering invariant every ramp hears the loss calmly: its lanes stay as able as they were (R83, R143). -/
theorem supplyLost_calm {s : State} (h : s.MeteringSound) (r : Fin 4) : Calm s.supplyLost r := by
  obtain ⟨-, hceiling, hmeter, -⟩ := h
  rw [Calm, supplyLost_ramp, supplyLost_ceilingOf, supplyLost_ableLanes, rampRuns_congr (supplyLost_rampState s)]
  refine ⟨hceiling r, fun hruns => ?_⟩
  obtain ⟨⟨-, hable, -⟩, -, hfinal, -⟩ := hmeter r hruns
  exact ⟨hable, hfinal⟩

/-! ## A stop keeps every conflict mark -/

theorem Lane.stopPath_conflictMark (x : Lane) : x.stopPath.conflictMark = x.conflictMark := by
  unfold Lane.stopPath; split <;> rfl

theorem standbyIfOut_lane (s : State) (r : Fin 4) : (s.standbyIfOut r).lane = s.lane := by
  unfold State.standbyIfOut; split <;> [exact enterStandby_lane s r; rfl]

theorem stopRamp_conflictMark (s : State) (r : Fin 4) (l : Fin 8) :
    ((s.stopRamp r).lane l).conflictMark = (s.lane l).conflictMark := by
  unfold State.stopRamp; split
  · rw [standbyIfOut_lane, enterStopping_lane]
    split <;> [exact Lane.stopPath_conflictMark _; rfl]
  · rfl

theorem refreshRamp_conflictMark (s : State) (r : Fin 4) (l : Fin 8) :
    ((s.refreshRamp r).lane l).conflictMark = (s.lane l).conflictMark := by
  rw [refreshRamp_eq, standbyIfOut_lane, State.stopIfUnable]
  split <;> [exact stopRamp_conflictMark _ r l; rfl]

theorem refreshAll_conflictMark (s : State) (l : Fin 8) :
    (s.refreshAll.lane l).conflictMark = (s.lane l).conflictMark := by
  simp only [refreshAll_eq, refreshRamp_conflictMark]

/-! ## The two commands -/

theorem exec_supplyLoss {s : State} (hs : s.resetting = false) :
    exec .supplyLoss s = .next (if s.lamp.present then s.loseSupply else s) := event_running _ hs

theorem exec_supplyReturn {s : State} (hs : s.resetting = false) :
    exec .supplyReturn s = .next (if s.lamp.present then s else s.regainSupply) :=
  event_running (fun s => if s.lamp.present then s else s.regainSupply) hs

/-- On a lane that the loss takes from the display no conflict of that moment can be taken (R138). -/
theorem loseSupply_conflictTaken {s : State} {l : Fin 8} (h : (s.lane l).losesSupply = true) :
    (s.loseSupply.lane l).conflictTaken? = none := by
  have hmark : (s.loseSupply.lane l).conflictMark = .dropped := by
    rw [loseSupply_eq, refreshAll_conflictMark, supplyLost_lane, Lane.loseSupply_conflictMark _ h]
  simp only [Lane.conflictTaken?, hmark]

/-- Settles O52: the lanes at the loss, and then the ramps, which hear of them calmly. -/
theorem supplyLossAndReturn : Obligations.SupplyLossAndReturn := by
  intro s hs
  rw [exec_supplyLoss hs, exec_supplyReturn hs]
  refine ⟨fun hm hp => ?_, fun hp => by rw [hp]; rfl, fun hp => by rw [hp]; rfl, fun hp => ?_, fun l t hp hl ht => ?_⟩
  · have h := refreshAll_calmed (supplyLost_calm hm)
    have hall : ∀ r : Fin 4, r ∈ [3, 2, 1, 0] := by decide
    rw [hp, if_pos rfl, loseSupply_eq]
    generalize s.supplyLost.refreshAll = t at h
    have hleaves : ∀ r, s.supplyLost.leaves r = true ↔ s.rampState r = .stopping ∧ EveryLaneOut t r := fun r => by
      rw [leaves_iff, supplyLost_rampState, everyLaneOut_congr h.lane]
    have hstays : ∀ r, s.rampState r ≠ .stopping ∨ ¬ EveryLaneOut t r → ¬ s.supplyLost.leaves r = true := fun r hr => by
      rwa [hleaves, not_and_or]
    have hramp : ∀ r, t.ramp r = s.supplyLost.calmed r := fun r => by rw [h.ramp, if_pos (hall r)]
    rw [← supplyLost_chan, ← supplyLost_ramp]
    refine ⟨t, rfl, h.frame.trans rfl, fun l => ?_, fun r => ?_, fun r hl => ?_, fun r hl => ?_, fun c r hq hl ho => ?_,
      fun c hc => ?_⟩
    · rw [h.lane, supplyLost_lane, Lane.loseSupply_eq]
      simp only [Option.any_eq_true, decide_eq_true_eq]
    · rw [hramp, calmed_sched (supplyLost_calls s r)]
    · rw [hramp, calmed_leaves ((hleaves r).2 hl)]
    · exact h.reformed (hall r) (hstays r hl)
    · exact h.chan_leaves (hall r) ((hleaves r).2 ⟨hl, ho⟩) hq
    · exact h.chan_stays fun r hq => hstays r (hc r hq)
  · rw [hp]
    refine ⟨s.regainSupply, rfl, rfl, fun l => ?_⟩
    simp only [State.regainSupply, State.mapLanes_lane]
    rfl
  · rw [hp, if_pos rfl, Host.Outcome.next.injEq] at ht
    rw [← ht]
    exact exec_conflictQualified_none (loseSupply_conflictTaken ((losesSupply_iff _).2 hl))

end Sys2Proof.Machine

/-! # Steps 4 and 5 of the close of a METERING ramp: spill and rate -/

namespace Sys2Proof.Machine

/-! ## The arithmetic of the Rate Unit -/

theorem clampRate_eq {lo hi : Nat} (h : lo ≤ hi) (x : Int) : (clampRate lo hi x : Int) = max (lo : Int) (min x hi) := by
  unfold clampRate; split <;> [omega; split <;> omega]

/-- The waiting-time floor of an empty queue is 0 by the division too (R88). -/
theorem waitFloor_eq (maxWait stored : Nat) : waitFloor maxWait stored = ceilDiv (stored * 3600) maxWait := by
  unfold waitFloor ceilDiv
  split
  · next h =>
    obtain hz | hz := Nat.eq_zero_or_pos maxWait
    · simp [hz]
    · rw [h, Nat.div_eq_of_lt (by omega)]
  · rfl

/-- The decision codes in the order of R93, each by the rate that decides. -/
theorem decisionOf_eq (p : PlanFields) (valid : Bool) (r1 : Int) (r2 rWait rSpill ceiling : Nat) :
    decisionOf p valid r1 r2 rWait rSpill ceiling =
      if ceiling < max r2 (max rWait rSpill) then .cap
      else if r2 < rSpill ∧ rWait ≤ rSpill then .spill
      else if r2 < rWait then .wait
      else if r1 < p.rateMin then .min
      else if p.rateMax < r1 then .max
      else if valid = true then .feedback
      else .fallback := by
  unfold decisionOf; dsimp only
  by_cases hspill : r2 < rSpill ∧ rWait ≤ rSpill
  · rw [if_pos (show r2 < max r2 (max rWait rSpill) by omega), if_pos (show rSpill = max r2 (max rWait rSpill) by omega),
      if_pos hspill]
  · by_cases hwait : r2 < rWait
    · rw [if_pos (show r2 < max r2 (max rWait rSpill) by omega),
        if_neg (show ¬ rSpill = max r2 (max rWait rSpill) by omega), if_neg hspill, if_pos hwait]
    · rw [if_neg (show ¬ r2 < max r2 (max rWait rSpill) by omega), if_neg hspill, if_neg hwait]

/-! ## Spill -/

theorem spills_iff (s : State) (r : Fin 4) (p : PlanFields) :
    s.spills r p = true ↔
      (∃ c, (s.chan c).duty = .queue r ∧ (s.chan c).latchedValid = true ∧ p.spillOcc ≤ (s.chan c).latchedOcc)
      ∨ (s.ramp r).queue.stored = (s.ramp r).queue.capacity := by
  simp [State.spills, and_assoc]

/-! ## The close of a METERING ramp -/

/-- The rate part that step 5 forms, `spill` being the judgement of step 4: the override's, or the computed one (R85, R91). -/
def Ramp.nextRate (p : PlanFields) (spill : Bool) (x : Ramp) : Rate :=
  match x.ctl.override with
  | some o => x.rate.atOverride o.rate
  | none => x.rate.compute p x.station x.queue.stored spill

section MeterClose
variable {s : State} {r : Fin 4} {p : Fin 16}

theorem meterClose_metering (h : s.rampState r = .metering) (ha : (s.ramp r).ctl.active = some p) :
    s.meterClose r = (s.evaluateSpill r (s.plan p).fields).computeRate r (s.plan p).fields := by
  simp only [State.meterClose, h, ha]

theorem evaluateSpill_ramp (s : State) (r : Fin 4) (p : PlanFields) :
    (s.evaluateSpill r p).ramp r = { s.ramp r with queue := { (s.ramp r).queue with spill := s.spills r p } } := by
  simp only [State.evaluateSpill, State.modQueue_eq]
  split <;> simp

/-- Step 4 raises the onset of spill alone (R45). -/
theorem evaluateSpill_faults (s : State) (r : Fin 4) (p : PlanFields) :
    (s.evaluateSpill r p).faults =
      if s.spills r p = true ∧ (s.ramp r).queue.spill = false then
        s.faults.onset { kind := .queueSpill, object := .ramp, index := r.val, detail := 0, uptime := s.unit.uptime }
      else s.faults := by
  simp only [State.evaluateSpill, Bool.and_eq_true, Bool.not_eq_true']
  split <;> rfl

/-- The record of a METERING ramp after steps 4 and 5. -/
theorem meterClose_ramp (h : s.rampState r = .metering) (ha : (s.ramp r).ctl.active = some p) :
    (s.meterClose r).ramp r =
      ({ s.ramp r with
          queue := { (s.ramp r).queue with spill := s.spills r (s.plan p).fields } } : Ramp).handRate
        ((s.ramp r).nextRate (s.plan p).fields (s.spills r (s.plan p).fields)) := by
  rw [meterClose_metering h ha, State.computeRate, State.modRamp_eq, State.setRamp_ramp_self, evaluateSpill_ramp]
  rfl

theorem meterClose_faults (h : s.rampState r = .metering) (ha : (s.ramp r).ctl.active = some p) :
    (s.meterClose r).faults =
      if s.spills r (s.plan p).fields = true ∧ (s.ramp r).queue.spill = false then
        s.faults.onset { kind := .queueSpill, object := .ramp, index := r.val, detail := 0, uptime := s.unit.uptime }
      else s.faults := by
  rw [meterClose_metering h ha, ← evaluateSpill_faults]
  rfl

end MeterClose

/-! ## The rate part that step 5 forms -/

section NextRate
variable {x : Ramp} {p : PlanFields} {spill : Bool}

theorem nextRate_override {o : Override} (h : x.ctl.override = some o) : x.nextRate p spill = x.rate.atOverride o.rate := by
  simp only [Ramp.nextRate, h]

theorem nextRate_computed (h : x.ctl.override = none) :
    x.nextRate p spill = x.rate.compute p x.station x.queue.stored spill := by
  simp only [Ramp.nextRate, h]

/-- A close keeps the ceiling, and the headway is that of the final rate (R92). -/
theorem nextRate_ceiling_headway :
    (x.nextRate p spill).ceiling = x.rate.ceiling
    ∧ (x.nextRate p spill).headway = ceilDiv 36000 (x.nextRate p spill).final := by
  unfold Ramp.nextRate; split <;> exact ⟨rfl, rfl⟩

end NextRate

/-! ## What steps 1 to 3 leave for steps 4 and 5 -/

theorem measured_plan (s : State) (r : Fin 4) : (((s.afterLatch r).formStation r).applyPending r).plan = s.plan :=
  State.plan_congr (by rw [applyPending_eq, formStation_eq, afterLatch_eq])

theorem measured_unit (s : State) (r : Fin 4) : (((s.afterLatch r).formStation r).applyPending r).unit = s.unit := by
  rw [applyPending_eq, formStation_eq, afterLatch_eq]

/-- The mainline is found LOST exactly when no station channel is left (R27). -/
theorem formed_valid (n sumOcc sumCount interval : Nat) (x : Station) :
    (x.formed n sumOcc sumCount interval).valid = false ↔ n = 0 := by
  unfold Station.formed; split <;> simp_all

/-- Settles O43: the record that steps 1 to 3 leave, taken through steps 4 and 5. -/
theorem closeComputesTheRate : Obligations.CloseComputesTheRate := by
  intro s r p hs hp
  have hx := measured_ramp s r
  have hfaults := measured_faults s r
  have hchan := closeMeasured_chan s r
  have hplan := measured_plan s r
  have hunit := measured_unit s r
  have hmchan : (((s.afterLatch r).formStation r).applyPending r).chan = (s.afterLatch r).chan := by simp
  have hms : (((s.afterLatch r).formStation r).applyPending r).rampState r = .metering := by simpa using hs
  rw [closeMeasured_afterLatch] at hchan ⊢
  generalize ((s.afterLatch r).formStation r).applyPending r = m at *
  have hvalid : (m.ramp r).station.valid = false ↔ (s.afterLatch r).stationChannels r = [] := by
    rw [hx, formed_valid, List.length_eq_zero_iff]
  have hactive : (m.ramp r).ctl.active = some p := by simp only [hx, hs, true_or, if_true, hp]
  have hover : (m.ramp r).ctl.override = (s.ramp r).ctl.override := by rw [hx]
  have hqueue : (m.ramp r).queue = (s.ramp r).queue := by rw [hx]
  have hrate : (m.ramp r).rate = (s.ramp r).rate := by rw [hx]
  have hsched : (m.ramp r).sched = (s.ramp r).sched := by rw [hx]
  have hspills := spills_iff m r (s.plan p).fields
  have hramp := meterClose_ramp hms hactive
  have hmfaults := meterClose_faults hms hactive
  rw [hplan] at hramp hmfaults
  rw [hmchan, ← hchan, hqueue] at hspills
  generalize m.spills r (s.plan p).fields = spills at *
  obtain ⟨hceiling, hheadway⟩ := nextRate_ceiling_headway (x := m.ramp r) (p := (s.plan p).fields) (spill := spills)
  dsimp only
  refine ⟨spills, hspills, ?_, ?_, ?_, ?_, ?_, fun o ho => ?_, fun ho => ?_⟩
  · rw [hramp, handRate_queue, hqueue]
  · rw [hramp, handRate_sched, handRate_rate, hsched, hrate]
  · rw [hmfaults, hqueue, hunit, hfaults, hramp]
    simp only [handRate_station, hvalid]
  · rw [hramp, handRate_rate, hceiling, hrate]
  · rw [hramp, handRate_rate, hheadway]
  · rw [hramp, handRate_rate, nextRate_override (hover.trans ho), hrate]
    exact ⟨rfl, rfl, rfl, rfl, rfl, rfl, rfl⟩
  · rw [hramp, handRate_rate, handRate_station, nextRate_computed (hover.trans ho), hrate, hqueue]
    exact ⟨rfl, rfl, fun hle => clampRate_eq hle _, waitFloor_eq _ _, rfl, rfl, decisionOf_eq _ _ _ _ _ _ _⟩

end Sys2Proof.Machine

/-! # The corrections of the count, the grant, and RAMP CONFIGURE -/

namespace Sys2Proof.Machine

/-! ## The corrections of the count -/

theorem exec_queueCorrection_eq (c : Fin 32) (s : State) : exec (.queueCorrection c) s = execQueueCorrection c s := rfl

/-- Taken while its queue timer runs, a queue correction writes the channel and the queue part of its ramp (R41). -/
theorem exec_queueCorrection {s : State} {c : Fin 32} {r : Fin 4} (hs : s.resetting = false)
    (hduty : (s.chan c).duty = .queue r) (h : s.queueRuns c r = true) :
    exec (.queueCorrection c) s = .next (s.correctQueue c r) := by
  rw [exec_queueCorrection_eq, execQueueCorrection, event_running _ hs]
  simp only [hduty, h, if_true]

/-- Without a running queue timer a queue correction changes nothing (R40). -/
theorem exec_queueCorrection_still {s : State} {c : Fin 32}
    (h : ∀ r, (s.chan c).duty = .queue r → s.queueRuns c r = false) : exec (.queueCorrection c) s = .next s := by
  rw [exec_queueCorrection_eq]
  refine event_still ?_
  split
  · next r hduty => simp [h r hduty]
  all_goals rfl

theorem exec_emptyCorrection_eq (r : Fin 4) (s : State) :
    exec (.emptyCorrection r) s =
      event (fun s => if s.emptyRuns r && (s.ramp r).queue.armed then s.modQueue r Queue.drain else s) s := rfl

/-- The empty timer runs on a METERING ramp with a watched DEMAND channel and no watched presence (R42). -/
theorem emptyRuns_iff (s : State) (r : Fin 4) :
    s.emptyRuns r = true ↔
      s.rampState r = .metering
      ∧ (∃ c l, (s.chan c).duty = .demand l ∧ (s.chan c).state = .active ∧ (s.lane l).ramp = some r
          ∧ (s.lane l).able = true)
      ∧ (∀ c, (s.chan c).duty = .queue r → (s.chan c).state = .active → (s.chan c).occupied = false)
      ∧ ∀ c l, (s.chan c).duty = .demand l → (s.chan c).state = .active → (s.lane l).ramp = some r →
          (s.lane l).able = true → (s.chan c).occupied = false := by
  have hdemand : (∃ c, s.watches r c = true ∧ (s.chan c).duty.role = .demand) ↔
      ∃ c l, (s.chan c).duty = .demand l ∧ (s.chan c).state = .active ∧ (s.lane l).ramp = some r
        ∧ (s.lane l).able = true := by
    simp only [watches_iff]
    constructor
    · rintro ⟨c, ⟨hactive, hqueue | ⟨l, hduty, hlane⟩⟩, hrole⟩
      · simp [hqueue, Duty.role] at hrole
      · exact ⟨c, l, hduty, hactive, hlane⟩
    · rintro ⟨c, l, hduty, hactive, hlane⟩
      exact ⟨c, ⟨hactive, .inr ⟨l, hduty, hlane⟩⟩, by rw [hduty]; rfl⟩
  have hclear : s.watchedOccupied r = false ↔
      (∀ c, (s.chan c).duty = .queue r → (s.chan c).state = .active → (s.chan c).occupied = false)
      ∧ ∀ c l, (s.chan c).duty = .demand l → (s.chan c).state = .active → (s.lane l).ramp = some r →
          (s.lane l).able = true → (s.chan c).occupied = false := by
    rw [← Bool.not_eq_true, watchedOccupied_iff]
    simp
  simp [State.emptyRuns, hdemand, hclear, and_assoc]

/-- Settles O40. -/
theorem correctionsOfTheCount : Obligations.CorrectionsOfTheCount := by
  refine ⟨fun s hs => ⟨fun c r hduty hactive hocc hserved hstate => ?_, fun r hruns harmed => ?_, fun r h => ?_, fun r =>
    emptyRuns_iff s r⟩, fun s => ⟨fun c h => ?_, fun r hs => event_resetting _ hs⟩⟩
  · rw [exec_queueCorrection hs hduty ((queueRuns_iff s c r).2 ⟨hactive, hduty, hocc, hserved, hstate⟩)]
    rfl
  · rw [exec_emptyCorrection_eq, event_running _ hs, hruns, harmed]
    rfl
  · rw [exec_emptyCorrection_eq]
    refine event_still ?_
    obtain h | h := h <;> simp [h]
  · by_cases hs : s.resetting = true
    · rw [exec_queueCorrection_eq]; exact event_resetting _ hs
    · refine exec_queueCorrection_still fun r hduty => ?_
      rw [← Bool.not_eq_true, queueRuns_iff]
      rintro ⟨hactive, -, hocc, hserved, hstate⟩
      obtain h | h | h | h | h := h
      · exact hs h
      · exact h hactive
      · simp [hocc] at h
      · simp [hserved] at h
      · exact hstate.elim (h r hduty).1 (h r hduty).2

/-! ## The grant -/

theorem exec_grant_eq (r : Fin 4) (s : State) : exec (.grant r) s = execGrant r s := rfl

/-- A ready METERING ramp grants the head of its list, in RED_READY (R104). -/
theorem exec_grant {s : State} {r : Fin 4} {l : Fin 8} {rest : List (Fin 8)} (hs : s.resetting = false)
    (hlist : (s.ramp r).sched.waiting = l :: rest) (hm : s.rampState r = .metering) (hready : (s.ramp r).ready = true)
    (hl : (s.lane l).state = .redReady) : exec (.grant r) s = .next (s.grantLane r l rest) := by
  rw [exec_grant_eq, execGrant, event_running _ hs]
  simp [hlist, hm, hready, hl]

/-- Without a list, without METERING, without readiness, or with a head not in RED_READY, nothing is granted. -/
theorem exec_grant_still {s : State} {r : Fin 4}
    (h : ∀ l rest, (s.ramp r).sched.waiting = l :: rest →
      ¬ (s.rampState r = .metering ∧ (s.ramp r).ready = true ∧ (s.lane l).state = .redReady)) :
    exec (.grant r) s = .next s := by
  rw [exec_grant_eq]
  refine event_still ?_
  split
  · rfl
  · next l rest hlist => simpa [and_assoc] using fun hm hready hl => absurd ⟨hm, hready, hl⟩ (h l rest hlist)

/-- Everything a grant writes: the list and since-last-grant, the vehicle that a lane without PASSAGE counts out, and the
lane (R38, R105, R119). -/
theorem grantLane_eq (s : State) (r : Fin 4) (l : Fin 8) (rest : List (Fin 8)) :
    s.grantLane r l rest =
      (s.setRamp r
        { s.ramp r with
          sched := { waiting := rest, sinceGrant := 0, fresh := false }
          queue := if s.exitPassage l = true then (s.ramp r).queue else (s.ramp r).queue.leave }).setLane l
        (s.lane l).grant := by
  simp only [State.grantLane, State.modSched_eq, State.modQueue_eq, State.modLane_eq, State.setRamp_ramp_self,
    State.setRamp_setRamp]
  split <;> rfl

theorem ready_iff (x : Ramp) : x.ready = true ↔ x.rate.headway ≤ x.sched.sinceGrant := by simp [Ramp.ready]

/-- Settles O41. -/
theorem grantGivesGreen : Obligations.GrantGivesGreen := by
  intro s r hs
  refine ⟨fun l rest hm hready hlist hl => ?_, fun h => exec_grant_still ?_, fun l rest hlist hl => exec_grant_still ?_⟩
  · rw [exec_grant hs hlist hm ((ready_iff _).2 hready) hl, grantLane_eq]
    rfl
  · rintro l rest hlist ⟨hm, hready, -⟩
    rw [ready_iff] at hready
    obtain h | h | h := h
    · omega
    · simp [h] at hlist
    · exact h hm
  · rintro l' rest' hlist' ⟨-, -, hl'⟩
    rw [hlist, List.cons.injEq] at hlist'
    exact hl (hlist'.1 ▸ hl')

/-! ## RAMP CONFIGURE -/

/-- The result of RAMP CONFIGURE: CLAMPED exactly when an operand was out of its range (R33, R61, R171). -/
theorem clampedIf_settings (p : RampSettings) :
    clampedIf (p.clamp ≠ p) = takenIf
      ((20 ≤ p.interval ∧ p.interval ≤ 120) ∧ (5 ≤ p.capacity ∧ p.capacity ≤ 250)
        ∧ (1 ≤ p.position ∧ p.position ≤ max 5 (min p.capacity 250)) ∧ (5 ≤ p.emptyCheck ∧ p.emptyCheck ≤ 60)
        ∧ (5 ≤ p.queueCheck ∧ p.queueCheck ≤ 60) ∧ p.holdOff ≤ 900) := by
  have h : p.clamp = p ↔
      (20 ≤ p.interval ∧ p.interval ≤ 120) ∧ (5 ≤ p.capacity ∧ p.capacity ≤ 250)
        ∧ (1 ≤ p.position ∧ p.position ≤ max 5 (min p.capacity 250)) ∧ (5 ≤ p.emptyCheck ∧ p.emptyCheck ≤ 60)
        ∧ (5 ≤ p.queueCheck ∧ p.queueCheck ≤ 60) ∧ p.holdOff ≤ 900 := by
    cases p; simp only [RampSettings.clamp, RampSettings.mk.injEq, clampTo]; omega
  simp only [clampedIf, takenIf, ← h]
  by_cases e : p.clamp = p <;> simp [e]

/-- The record of a ramp that RAMP CONFIGURE opens (R61, R35, R83). -/
theorem openRamp_eq (s : State) (r : Fin 4) (p : RampSettings) :
    s.openRamp r p = s.setRamp r
      { ctl := { RampControl.fullReset with state := .standby, interval := p.interval, suspendHoldOff := p.holdOff }
        station := Station.start
        queue := { Queue.fullReset with
          capacity := p.capacity, position := p.position, emptyCheck := p.emptyCheck, queueCheck := p.queueCheck
          entryDegraded := !s.someActive (.entry r) }
        rate := { Rate.fullReset with ceiling := s.ceilingOf r }
        sched := { waiting := [], sinceGrant := 0, fresh := false } } := by
  let x : Ramp := Ramp.configure p { Ramp.fullReset with ctl := { RampControl.fullReset with state := .standby } }
  let y : Ramp := { x with queue := { x.queue with entryDegraded := !s.someActive (.entry r) } }
  have hdegraded : (s.setRamp r x).formEntryDegraded r = s.setRamp r y := by
    have hopen : (s.setRamp r x).rampState r ≠ .closed := by
      rw [State.rampState, State.setRamp_ramp_self]; exact RampState.noConfusion
    rw [State.formEntryDegraded, State.modQueue_eq, State.setRamp_setRamp, State.setRamp_ramp_self,
      someActive_congr (State.setRamp_chan s r x)]
    simp only [hopen, ne_eq, not_false_eq_true, decide_true, Bool.true_and]
    rfl
  have hruns : (s.setRamp r y).rampRuns r = false := by
    rw [State.rampRuns, State.rampState, State.setRamp_ramp_self]; rfl
  show ((s.setRamp r x).formEntryDegraded r).formCeiling r = _
  rw [hdegraded, formCeiling_eq, State.setRamp_setRamp, State.setRamp_ramp_self, hruns,
    ceilingOf_congr (State.setRamp_lane s r y)]
  rfl

theorem reconfigureRamp_ramp (s : State) (r i : Fin 4) (p : RampSettings) :
    (s.reconfigureRamp r p).ramp i =
      if i = r then
        { (s.ramp r).configure p with
          ctl := { ((s.ramp r).configure p).ctl with
            elapsed := if p.interval = (s.ramp r).ctl.interval then (s.ramp r).ctl.elapsed else 0 } }
      else s.ramp i := by
  simp only [State.reconfigureRamp, State.restartInterval, State.modRamp_eq, State.modCtl_eq]
  split
  · rw [State.setRamp_ramp]; rfl
  · simp only [State.mapChans_ramp, State.setRamp_setRamp, State.setRamp_ramp, if_true]

theorem reconfigureRamp_chan (s : State) (r : Fin 4) (p : RampSettings) (c : Fin 32) :
    (s.reconfigureRamp r p).chan c =
      if p.interval ≠ (s.ramp r).ctl.interval ∧ s.boundRamp c = some r then
        { s.chan c with onTime := 0, count := 0, periodMark := false }
      else s.chan c := by
  simp only [State.reconfigureRamp, State.restartInterval]
  by_cases h : p.interval = (s.ramp r).ctl.interval
  · simp [h]
  · rw [if_neg h, State.mapChans_chan]
    simp only [ne_eq, h, not_false_eq_true, true_and]
    rfl

theorem reconfigureRamp_frame (s : State) (r : Fin 4) (p : RampSettings) :
    s.reconfigureRamp r p =
      { s with ramps := (s.reconfigureRamp r p).ramps, channels := (s.reconfigureRamp r p).channels } := by
  unfold State.reconfigureRamp; dsimp only
  split <;> rfl

/-- A request on a ramp is what its service answers. -/
theorem rampRequest_served (r : Fin 4) {serve : Fin 4 → State → Served} {s : State} {v : Served} (h : s.hears = true)
    (hserve : serve r s = v) :
    request false (withRamp (byteOf r.val) serve) s = .next (v.state.answered v.result v.reply) := by
  rw [request_answered _ h, withRamp_byteOf, hserve]

/-- Settles O32, by the state of the ramp. -/
theorem rampConfigureWrites : Obligations.RampConfigureWrites := by
  intro s r interval capacity position emptyCheck queueCheck holdOff h
  let p : RampSettings :=
    { interval := interval.toNat, capacity := capacity.toNat, position := position.toNat
      emptyCheck := emptyCheck.toNat, queueCheck := queueCheck.toNat, holdOff := holdOff.toNat }
  have hresult := clampedIf_settings p
  have hhold : p.clamp.holdOff = min holdOff.toNat 900 := Nat.zero_max _
  have hserved : ∀ {v : Served}, serveRampConfigure p r s = v →
      exec (.rampConfigure (byteOf r) interval capacity position emptyCheck queueCheck holdOff) s =
        .next (v.state.answered v.result v.reply) := fun hv => rampRequest_served r h hv
  refine ⟨fun hs => hserved (v := refuse s .wrongState) ?_, fun hs => ?_, fun hs => ?_, fun b hb => ?_⟩
  · rw [rampRuns_iff] at hs
    obtain (hs | hs) | hs := hs <;> simp only [serveRampConfigure, hs]
  · rw [hserved (v := acceptClamped (s.openRamp r p.clamp) (p.clamp ≠ p)) (by simp only [serveRampConfigure, hs]),
      acceptClamped_state, acceptClamped_result, hresult, openRamp_eq, hhold]
    rfl
  · refine ⟨s.reconfigureRamp r p.clamp, ?_, reconfigureRamp_frame s r _, fun j hj => ?_, ?_, fun c => ?_⟩
    · rw [hserved (v := acceptClamped (s.reconfigureRamp r p.clamp) (p.clamp ≠ p)) (by simp only [serveRampConfigure, hs]),
        acceptClamped_state, acceptClamped_result, hresult]
      rfl
    · rw [reconfigureRamp_ramp, if_neg hj]
    · rw [reconfigureRamp_ramp, if_pos rfl, Ramp.configure, hhold]
      rfl
    · rw [reconfigureRamp_chan]
      rfl
  · exact (request_answered _ h).trans (by rw [withRamp_bad hb]; rfl)

end Sys2Proof.Machine

/-! # PLAN WRITE and PLAN RETIRE -/

namespace Sys2Proof.Machine

/-- A request on a plan number above 15 is refused with BAD_ID (R48, R56). -/
theorem planRequest_bad {b : Byte} (hb : 16 ≤ b.toNat) (serve : Fin 16 → State → Served) {s : State}
    (h : s.hears = true) : request false (withPlan b serve) s = .next (s.answered .badId) := by
  rw [request_answered _ h, withPlan_bad hb]; rfl

/-- A request on a plan is what its service answers. -/
theorem planRequest_served (p : Fin 16) {serve : Fin 16 → State → Served} {s : State} {v : Served} (h : s.hears = true)
    (hserve : serve p s = v) :
    request false (withPlan (byteOf p.val) serve) s = .next (v.state.answered v.result v.reply) := by
  rw [request_answered _ h, withPlan_byteOf, hserve]

/-! ## PLAN WRITE -/

/-- A request that clamps reports CLAMPED exactly when what it takes differs from what was sent (R171). -/
theorem clampedIf_ne {α : Type} [DecidableEq α] (x y : α) : clampedIf (x ≠ y) = takenIf (x = y) := by
  by_cases h : x = y <;> simp [clampedIf, takenIf, h]

theorem PlanFields.sound_iff (p : PlanFields) : p.sound = true ↔ p.rateMin ≤ p.rateMax ∧ p.offOcc < p.onOcc := by
  simp [PlanFields.sound]

/-- The second clamping step reaches rate start and rate fallback alone, so the first step gives the other fields. -/
theorem PlanFields.candidate_eq (p : PlanFields) :
    p.candidate = { p.clampFirst with
      rateStart := p.candidate.rateStart, rateFallback := p.candidate.rateFallback } := by
  unfold PlanFields.candidate PlanFields.clampSecond
  split <;> rfl

/-- Where the clamped bounds have a range, rate start and rate fallback are brought into it (R48). -/
theorem PlanFields.candidate_rates {p : PlanFields} (h : p.clampFirst.rateMin ≤ p.clampFirst.rateMax) :
    p.candidate.rateStart = clampTo p.clampFirst.rateMin p.clampFirst.rateMax p.rateStart
    ∧ p.candidate.rateFallback = clampTo p.clampFirst.rateMin p.clampFirst.rateMax p.rateFallback := by
  simp only [PlanFields.candidate, PlanFields.clampSecond, if_pos h]
  exact ⟨rfl, rfl⟩

/-- PLAN WRITE on a plan number is what its service answers. -/
theorem exec_planWrite (p : Fin 16) (f : PlanOperands) {s : State} {v : Served} (h : s.hears = true)
    (hserve : servePlanWrite (PlanFields.sent f) p s = v) :
    exec (.planWrite (byteOf p) f) s = .next (v.state.answered v.result v.reply) := planRequest_served p h hserve

/-- A candidate that fails the structural check is refused and nothing is written (R49). -/
theorem exec_planWrite_refused {s : State} {f : PlanOperands} (p : Fin 16) (h : s.hears = true)
    (hunsound : ¬ (PlanFields.sent f).candidate.sound = true) :
    exec (.planWrite (byteOf p) f) s = .next (s.answered .badValue) :=
  exec_planWrite p f h (if_neg hunsound)

/-- A candidate that passes the structural check is written as a whole (R50). -/
theorem exec_planWrite_written {s : State} {f : PlanOperands} (p : Fin 16) (h : s.hears = true)
    (hsound : (PlanFields.sent f).candidate.sound = true) :
    exec (.planWrite (byteOf p) f) s =
      .next ((s.setPlan p { defined := true, fields := (PlanFields.sent f).candidate }).answered
        (takenIf ((PlanFields.sent f).candidate = PlanFields.sent f))) := by
  rw [exec_planWrite p f h (if_pos hsound), acceptClamped_state, acceptClamped_result, acceptClamped_reply, clampedIf_ne]

/-- Settles O30: the candidate of R48 is the plan that the statement asks for. -/
theorem planWriteChecksAndWrites : Obligations.PlanWriteChecksAndWrites := by
  intro s p f h
  have hwritten := exec_planWrite_written (f := f) p h
  have hrefused := exec_planWrite_refused (f := f) p h
  have hrange := PlanFields.candidate_inRange (p := PlanFields.sent f)
  have hrates := PlanFields.candidate_rates (p := PlanFields.sent f)
  have hfields := PlanFields.candidate_eq (PlanFields.sent f)
  generalize (PlanFields.sent f).candidate = x at *
  obtain ⟨hmin, hmax⟩ : x.rateMin = (PlanFields.sent f).clampFirst.rateMin
      ∧ x.rateMax = (PlanFields.sent f).clampFirst.rateMax := by rw [hfields]; exact ⟨rfl, rfl⟩
  rw [← hmin, ← hmax] at hrates
  rw [PlanFields.sound_iff] at hwritten hrefused hrange
  simp only [PlanFields.clampFirst, PlanFields.sent, clampTo, Nat.zero_max] at hfields
  refine ⟨x, ?_, ?_, ?_, ?_, hrates, ?_, ?_, ?_, ?_, ?_, ?_, ?_, ?_,
    fun hbad => hrefused (by omega), fun hle hlt => ⟨hrange ⟨hle, hlt⟩, hwritten ⟨hle, hlt⟩⟩,
    fun b hb => planRequest_bad hb _ h⟩
  all_goals rw [hfields]

/-! ## PLAN RETIRE -/

/-- A plan has no reference exactly when no ramp names it as active or pending (R53). -/
theorem references_eq_zero_iff (s : State) (p : Fin 16) :
    s.references p = 0 ↔ ∀ r, (s.ramp r).ctl.active ≠ some p ∧ (s.ramp r).ctl.pending ≠ some p := by
  simp [State.references, List.countP_eq_zero, forall_and]

/-- PLAN RETIRE on a plan number is what its service answers. -/
theorem exec_planRetire (p : Fin 16) {s : State} {v : Served} (h : s.hears = true) (hserve : servePlanRetire p s = v) :
    exec (.planRetire (byteOf p)) s = .next (v.state.answered v.result v.reply) := planRequest_served p h hserve

/-- Settles O31, by whether a ramp names the plan. -/
theorem planRetireFreesThePlan : Obligations.PlanRetireFreesThePlan := by
  refine fun s h => ⟨fun b hb => planRequest_bad hb _ h, fun p => ⟨fun ⟨r, hr⟩ => ?_, fun hunnamed => ?_⟩⟩
  · have hnamed : s.references p ≠ 0 := fun hzero => unnamed_of_references hzero r hr
    exact exec_planRetire p h (if_neg hnamed)
  · exact exec_planRetire p h (if_pos ((references_eq_zero_iff s p).2 hunnamed))

end Sys2Proof.Machine

/-! # Lane sequencing: the entry to a state, the requests of a lane, and its timed transitions -/

namespace Sys2Proof.Machine

/-! ## The states of a lane and the aspects they show -/

theorem LaneState.aspect_red_iff (st : LaneState) : st.aspect = .red ↔ st = .redMin ∨ st = .redReady := by
  cases st <;> simp [LaneState.aspect]

theorem Lane.aspect_unbound {x : Lane} (h : x.ramp = none) : x.aspect = .none := by simp [Lane.aspect, h]

theorem Lane.aspect_bound {x : Lane} (h : x.ramp ≠ none) : x.aspect = x.state.aspect := by
  simp [Lane.aspect, Option.isSome_iff_ne_none, h]

theorem Lane.isLocked_iff (x : Lane) : x.isLocked = true ↔ ∃ cause, x.state = .faultLocked cause := by
  unfold Lane.isLocked; cases x.state <;> simp

theorem Lane.isLit_iff (x : Lane) :
    x.isLit = true ↔ x.state = .starting ∨ x.state = .redMin ∨ x.state = .redReady ∨ x.state = .green
      ∨ x.state = .amber ∨ x.state = .resting ∨ x.state = .flush := by
  unfold Lane.isLit; cases x.state <;> simp [LaneState.aspect]

/-! ## The entry to a state -/

/-- An entry to DARK or FAULT_LOCKED ends a lane's leaving, and its service with it (R124, R126). -/
theorem Lane.enter_out {st : LaneState} (x : Lane) (h : (x.enter st).isOut = true) :
    (x.enter st).leaving = false ∧ (x.enter st).inService = (x.inService && !x.leaving) := by
  rw [isOut_iff, Lane.isLocked_iff, Lane.enter_state] at h
  obtain rfl | ⟨cause, rfl⟩ := h <;> simp [Lane.enter]

/-- An entry to any other state leaves them. -/
theorem Lane.enter_not_out {st : LaneState} (x : Lane) (h : (x.enter st).isOut = false) :
    (x.enter st).leaving = x.leaving ∧ (x.enter st).inService = x.inService := by
  rw [← Bool.not_eq_true, isOut_iff, Lane.isLocked_iff, Lane.enter_state] at h
  cases st <;> simp_all [Lane.enter]

/-- Settles O45: each item of the entry, then what each state shows and is. -/
theorem laneEntersAState : Obligations.LaneEntersAState := by
  intro x st
  refine ⟨rfl, ?timer, rfl, ?redSuspect, ?auxMark, ?recheck, ?supplyOut, ?otherwise, x.enter_out, x.enter_not_out,
    Lane.aspect_unbound, ?aspect, ?stopsDark, ?stopsFlush, ?stays, x.isLocked_iff, ?out, isRed_iff x, x.isLit_iff,
    able_iff x, ?code⟩
  case timer => cases st <;> rfl
  case redSuspect => simp only [Lane.enter, LaneState.aspect_red_iff]
  case auxMark => cases st <;> simp [Lane.enter]
  case recheck => simp only [Lane.enter, LaneState.aspect_red_iff, decide_eq_true_eq]
  case supplyOut => rintro rfl; exact ⟨rfl, rfl, rfl, rfl⟩
  case otherwise => intro h; simp [Lane.enter, h]
  case aspect => intro h; rw [Lane.aspect_bound h]; cases x.state <;> rfl
  case stopsDark => rintro (h | h | h) <;> simp only [Lane.stopPath, h]
  case stopsFlush => rintro (h | h | h) <;> simp only [Lane.stopPath, h]
  case stays =>
    rintro (h | h | h | h)
    · exact stopPath_out h
    all_goals simp only [Lane.stopPath, h]
  case out => rw [isOut_iff, Lane.isLocked_iff]
  case code => cases x.aspect <;> rfl

/-! ## The requests of a lane -/

/-- A request on a lane number above 7 is refused with BAD_ID (section 8.9). -/
theorem laneRequest_bad {b : Byte} (hb : 8 ≤ b.toNat) (serve : Fin 8 → State → Served) {s : State}
    (h : s.hears = true) : request false (withLane b serve) s = .next (s.answered .badId) := by
  rw [request_answered _ h, withLane_bad hb]; rfl

/-- A request on a lane is what its service answers. -/
theorem laneRequest_served (l : Fin 8) {serve : Fin 8 → State → Served} {s : State} {v : Served} (h : s.hears = true)
    (hserve : serve l s = v) :
    request false (withLane (byteOf l.val) serve) s = .next (v.state.answered v.result v.reply) := by
  rw [request_answered _ h, withLane_byteOf, hserve]

/-- A request that rewrites a lane with its binding kept: its ramp hears of it. -/
theorem laneRequest_heard (l : Fin 8) {serve : Fin 8 → State → Served} {s : State} {y : Lane} (h : s.hears = true)
    (hserve : serve l s = accept (s.rewriteLane l y)) (hy : y.ramp = (s.lane l).ramp) :
    request false (withLane (byteOf l.val) serve) s =
      .next (((s.setLane l y).refreshOf (s.lane l).ramp).answered .ok) := by
  rw [laneRequest_served l h hserve, rewriteLane_bound hy]; rfl

/-! ### LANE CONFIGURE -/

theorem orNone_ramp_bad {b : Byte} (h : 4 ≤ b.toNat) (hne : b ≠ 0xFF) : orNone rampOf? b = none := by
  rw [orNone, if_neg (show b ≠ noneByte from hne), rampOf_bad h]; rfl

theorem orNone_ramp_indexByte (dest : Option (Fin 4)) : orNone rampOf? (indexByte dest) = some dest := by
  revert dest; decide

theorem laneHeld_iff (s : State) (l : Fin 8) :
    s.laneHeld l = true ↔ ∃ c, (s.chan c).duty = .demand l ∨ (s.chan c).duty = .passage l := by
  simp [State.laneHeld]

/-- Check 3 of R128: a CLOSED ramp takes no lane. -/
theorem bindingBar_closed {s : State} {r : Fin 4} (l : Fin 8) (h : s.rampState r = .closed) :
    s.bindingBar l (some r) = some .undefined := if_pos h

/-- Check 4 of R128: a ramp with four lanes takes no other. -/
theorem bindingBar_crowded {s : State} {l : Fin 8} {r : Fin 4} (hopen : s.rampState r ≠ .closed)
    (hnew : (s.lane l).ramp ≠ some r) (hfull : 4 ≤ (s.members r).length) : s.bindingBar l (some r) = some .inUse := by
  simp [State.bindingBar, hopen, hnew, hfull]

theorem bindingBar_free {s : State} {l : Fin 8} {dest : Option (Fin 4)}
    (hopen : ∀ r, dest = some r → s.rampState r ≠ .closed)
    (hroom : ¬ ∃ r, dest = some r ∧ (s.lane l).ramp ≠ some r ∧ 4 ≤ (s.members r).length) :
    s.bindingBar l dest = none := by
  cases dest with
  | none => rfl
  | some r =>
    have hroom' : ¬ ((s.lane l).ramp ≠ some r ∧ 4 ≤ (s.members r).length) := fun h => hroom ⟨r, rfl, h⟩
    simpa [State.bindingBar, hopen r rfl] using hroom'

section Configure
variable {s : State} {l : Fin 8} {b : Byte} {dest : Option (Fin 4)}

theorem serveLaneConfigure_badRamp (hb : orNone rampOf? b = none) (t : LaneTimings) :
    serveLaneConfigure b t l s = refuse s .badId := by
  simp [serveLaneConfigure, hb]

variable (hb : orNone rampOf? b = some dest)
include hb

theorem serveLaneConfigure_lit (hlit : (s.lane l).state ≠ .dark) (t : LaneTimings) :
    serveLaneConfigure b t l s = refuse s .wrongState := by
  simp [serveLaneConfigure, hb, hlit]

variable (hdark : (s.lane l).state = .dark)
include hdark

theorem serveLaneConfigure_barred {e : Result} (hbar : s.bindingBar l dest = some e) (t : LaneTimings) :
    serveLaneConfigure b t l s = refuse s e := by
  simp [serveLaneConfigure, hb, hdark, hbar]

variable (hbar : s.bindingBar l dest = none)
include hbar

theorem serveLaneConfigure_held (hnew : (s.lane l).ramp ≠ dest) (hheld : s.laneHeld l = true) (t : LaneTimings) :
    serveLaneConfigure b t l s = refuse s .inUse := by
  simp [serveLaneConfigure, hb, hdark, hbar, hnew, hheld]

variable (hfree : ¬ ((s.lane l).ramp ≠ dest ∧ s.laneHeld l = true))
include hfree

/-- The last check of R128, that of the timing lock, and the write. -/
theorem serveLaneConfigure_unheld (t : LaneTimings) :
    serveLaneConfigure b t l s =
      if s.locks.timing = true ∧ t.clamp ≠ (s.lane l).timings then refuse s .locked
      else acceptClamped (s.rewriteLane l ((s.lane l).configure dest t.clamp)) (t.clamp ≠ t) := by
  simp only [serveLaneConfigure, hb, hdark, hbar, ne_eq, not_true, if_false, Bool.and_eq_true, decide_eq_true_eq]
  exact if_neg hfree

theorem serveLaneConfigure_locked {t : LaneTimings} (hlock : s.locks.timing = true)
    (ht : t.clamp ≠ (s.lane l).timings) : serveLaneConfigure b t l s = refuse s .locked := by
  rw [serveLaneConfigure_unheld hb hdark hbar hfree, if_pos ⟨hlock, ht⟩]

theorem serveLaneConfigure_accepted {t : LaneTimings} (ht : s.locks.timing = false ∨ t.clamp = (s.lane l).timings) :
    serveLaneConfigure b t l s =
      acceptClamped (s.rewriteLane l ((s.lane l).configure dest t.clamp)) (t.clamp ≠ t) := by
  rw [serveLaneConfigure_unheld hb hdark hbar hfree, if_neg]
  rintro ⟨hlock, hne⟩
  exact ht.elim (by simp [hlock]) hne

end Configure

/-- The record that an accepted LANE CONFIGURE writes (R128, R134). -/
theorem Lane.configure_eq (dest : Option (Fin 4)) (t : LaneTimings) (x : Lane) :
    x.configure dest t =
      { x with
        ramp := dest, inService := x.inService && decide (x.ramp = dest)
        greenTime := t.green, amberTime := t.amber, minRed := t.minRed, startAmber := t.startAmber
        flushGreen := t.flushGreen
        settle := if dest = none then none else x.settle
        conflict := if dest = none then 0 else x.conflict
        conflictMark := if dest = none then .counting else x.conflictMark
        conflictBefore := if dest = none then 0 else x.conflictBefore
        markBefore := if dest = none then .counting else x.markBefore
        recheck := if dest = none then 0 else x.recheck
        clearRun := if dest = none then 0 else x.clearRun
        seen := if dest = none then Lamps.dark else x.seen
        auxMark := if dest = none then false else x.auxMark } := by
  cases dest <;> simp [Lane.configure, Lane.unwatch]

/-- A lane that takes a binding is heard by the ramp it had and by the one it has, where that is another (R112). -/
theorem rewriteLane_configured (s : State) (l : Fin 8) (dest : Option (Fin 4)) (t : LaneTimings) :
    s.rewriteLane l ((s.lane l).configure dest t) =
      ((s.setLane l ((s.lane l).configure dest t)).refreshOf (s.lane l).ramp).refreshOf
        (if dest = (s.lane l).ramp then none else dest) := by
  rw [State.rewriteLane, Lane.configure_ramp]

/-- Settles O47: the checks of R128 in their order, and the write. -/
theorem laneConfigureWrites : Obligations.LaneConfigureWrites := by
  intro s l b green amber startAmber minRed flush h
  let sent : LaneTimings :=
    { green := green.toNat, amber := amber.toNat, minRed := minRed.toNat, startAmber := startAmber.toNat
      flushGreen := flush.toNat }
  have hserved : ∀ {v : Served}, serveLaneConfigure b sent l s = v →
      exec (.laneConfigure (byteOf l) b green amber minRed startAmber flush) s =
        .next (v.state.answered v.result v.reply) := fun hv => laneRequest_served l h hv
  refine ⟨fun n hn => laneRequest_bad hn _ h, fun hb hne => ?badRamp, ?_⟩
  case badRamp => exact hserved (serveLaneConfigure_badRamp (orNone_ramp_bad hb hne) sent)
  rintro dest rfl
  have hb := orNone_ramp_indexByte dest
  refine ⟨fun hlit => hserved (serveLaneConfigure_lit hb hlit sent), fun hdark => ⟨?closed, fun hopen => ?opened⟩⟩
  case closed =>
    rintro ⟨r, rfl, hclosed⟩
    exact hserved (serveLaneConfigure_barred hb hdark (bindingBar_closed l hclosed) sent)
  case opened =>
    refine ⟨?crowded, fun hroom => ?_, fun hroom => ?_, fun hroom => ?_⟩
    case crowded =>
      rintro ⟨r, rfl, hnew, hfull⟩
      exact hserved (serveLaneConfigure_barred hb hdark (bindingBar_crowded (hopen r rfl) hnew hfull) sent)
    all_goals
      have hbar := bindingBar_free hopen hroom
      rw [← laneHeld_iff]
    · exact fun ⟨hnew, hheld⟩ => hserved (serveLaneConfigure_held hb hdark hbar hnew hheld sent)
    · exact fun hfree hlock ht => hserved (serveLaneConfigure_locked hb hdark hbar hfree hlock ht)
    · intro hfree ht
      refine ⟨(s.lane l).configure dest sent.clamp, Lane.configure_eq _ _ _, ?_⟩
      rw [hserved (serveLaneConfigure_accepted hb hdark hbar hfree ht), acceptClamped_state, acceptClamped_result,
        rewriteLane_configured, clampedIf_ne]
      rfl

/-! ### LANE ENABLE, LANE DISABLE and LANE RESTORE -/

/-- A DARK and able lane of a METERING ramp lights, with the supply into PROVING, else into SUPPLY_OUT (R115). -/
theorem lightIfMetering_eq (s : State) (y : Lane) :
    s.lightIfMetering y =
      if y.state = .dark ∧ y.able = true ∧ (∃ r, y.ramp = some r ∧ s.rampState r = .metering) then
        y.enter (if s.lamp.present then .proving else .supplyOut)
      else y := by
  by_cases hm : ∃ r, y.ramp = some r ∧ s.rampState r = .metering
  · rw [State.lightIfMetering, if_pos (by simpa [Option.any_eq_true] using hm)]
    simp only [Lane.light, Bool.and_eq_true, decide_eq_true_eq, hm, and_true]
  · rw [State.lightIfMetering, if_neg (by simpa [Option.any_eq_true] using hm), if_neg fun h => hm h.2.2]

/-- Settles O48: each request by the state of its lane and of the lane's ramp. -/
theorem laneServiceRequests : Obligations.LaneServiceRequests := by
  intro s h
  refine ⟨fun b hb => ⟨laneRequest_bad hb _ h, laneRequest_bad hb _ h, laneRequest_bad hb _ h⟩, fun l => ?_⟩
  have henable : ∀ {v : Served}, serveLaneEnable l s = v →
      exec (.laneEnable (byteOf l)) s = .next (v.state.answered v.result v.reply) := fun hv => laneRequest_served l h hv
  have hdisable : ∀ {y : Lane}, (s.lane l).disable = y → exec (.laneDisable (byteOf l)) s =
      .next (((s.setLane l y).refreshOf (s.lane l).ramp).answered .ok) := by
    rintro y rfl
    exact laneRequest_heard l h rfl (s.lane l).disable_ramp
  refine ⟨fun hx => ?unbound, fun r hx => ⟨?busy, fun hr hleave hin => ?serving, fun hr hleave hout => ?enters⟩,
    fun hout => hdisable (if_pos hout), fun hon hleave => hdisable ?_, fun hon hleave => hdisable ?_,
    fun hlock => ?unlocked, fun hlock => ?restored⟩
  case unbound => exact henable (v := refuse s .undefined) (by simp only [serveLaneEnable, hx])
  case busy =>
    rintro (hr | hleave)
    · exact henable (v := refuse s .wrongState) (by simp [serveLaneEnable, hx, hr])
    · exact henable (v := refuse s .wrongState) (by simp [serveLaneEnable, hx, hleave])
  case serving => exact henable (v := accept s) (by simp [serveLaneEnable, hx, hr, hleave, hin])
  case enters =>
    refine (laneRequest_heard l h ?_ (lightIfMetering_ramp s { s.lane l with inService := true })).trans ?_
    · simp [serveLaneEnable, hx, hr, hleave, hout]
    · rw [lightIfMetering_eq]
  case unlocked => exact laneRequest_served l h (v := refuse s .wrongState) (by simp [serveLaneRestore, hlock])
  case restored =>
    refine (laneRequest_heard l h (if_pos hlock)
      (lightIfMetering_ramp s { (s.lane l).enter .dark with rechecks := 0 })).trans ?_
    rw [lightIfMetering_eq]
  all_goals simp [Lane.disable, hon, hleave]

/-! ## The timed transitions -/

/-- A lane in the state whose timer ran goes on, and its ramp hears of it. -/
theorem moveLane_moved {s : State} {l : Fin 8} {source : LaneState} (next : Lane → LaneState)
    (h : (s.lane l).state = source) :
    s.moveLane l source next =
      (s.setLane l ((s.lane l).enter (next (s.lane l)))).refreshOf (s.lane l).ramp := by
  rw [State.moveLane, if_pos h, rewriteLane_bound (Lane.enter_ramp _ _)]

/-- In any other state the expiry changes nothing. -/
theorem moveLane_still {s : State} {l : Fin 8} {source : LaneState} (next : Lane → LaneState)
    (h : (s.lane l).state ≠ source) : s.moveLane l source next = s := if_neg h

/-- The expiry of a state timer that leads to one state alone. -/
theorem event_moveLane {s : State} (hs : s.resetting = false) (l : Fin 8) (source target : LaneState) :
    event (fun s => s.moveLane l source fun _ => target) s =
      if (s.lane l).state = source then
        .next ((s.setLane l ((s.lane l).enter target)).refreshOf (s.lane l).ramp)
      else .next s := by
  rw [event_running _ hs]
  split
  · next h => rw [moveLane_moved _ h]
  · next h => rw [moveLane_still _ h]

theorem exec_minRedExpiry {s : State} (hs : s.resetting = false) (l : Fin 8) :
    exec (.minRedExpiry l) s = .next (s.moveLane l .redMin s.afterMinRed) :=
  event_running (fun s => s.moveLane l .redMin s.afterMinRed) hs

/-- The table of R118, from its first row on. -/
theorem afterMinRed_eq (s : State) (x : Lane) :
    s.afterMinRed x =
      if x.leaving = true ∨ ∃ r, x.ramp = some r ∧ s.rampState r = .stopping then .flush
      else if ∃ r, x.ramp = some r ∧ s.rampState r = .suspended then .resting
      else .redReady := by
  simp [State.afterMinRed, Option.any_eq_true]

/-- The end of a proving window that had no clear run (R116, R126, R135). -/
theorem exec_provingWindowEnd {s : State} {l : Fin 8} (hs : s.resetting = false) (h : (s.lane l).state = .proving) :
    exec (.provingWindowEnd l) s =
      .next ((raise .outputStuck .lane l.val (s.lane l).seen.code s).lockLane l .outputStuck) :=
  (event_running _ hs).trans (by rw [if_pos h])

/-- Settles O49: each transition is a move of the lane that its ramp hears of. -/
theorem laneTimedTransitions : Obligations.LaneTimedTransitions := by
  intro s l hs
  refine ⟨event_moveLane hs l _ _, fun h hf => ?_, fun h hf hr => ?_, fun h hf hr => ?_, fun h => ?_,
    event_moveLane hs l _ _, event_moveLane hs l _ _, event_moveLane hs l _ _, ?clear, fun h => ?unproved,
    fun h => ?window⟩
  · rw [exec_minRedExpiry hs, moveLane_moved _ h, afterMinRed_eq, if_pos hf]
  · rw [exec_minRedExpiry hs, moveLane_moved _ h, afterMinRed_eq, if_neg hf, if_pos hr]
  · rw [exec_minRedExpiry hs, moveLane_moved _ h, afterMinRed_eq, if_neg hf, if_neg hr]
  · rw [exec_minRedExpiry hs, moveLane_still _ h]
  case clear =>
    refine (event_running _ hs).trans ?_
    by_cases hdark : (s.lane l).sense = Lamps.dark
    · rw [if_pos hdark]
      simpa only [hdark, and_true] using (event_running _ hs).symm.trans (event_moveLane hs l .proving .starting)
    · rw [if_neg hdark, if_neg fun h => hdark h.2]
  case unproved => exact event_still (if_neg h)
  case window =>
    rw [exec_provingWindowEnd hs h, State.lockLane, rewriteLane_bound (Lane.enter_ramp _ _)]
    simp only [Lamps.code, bit_eq_toNat]
    rfl

end Sys2Proof.Machine

/-! # A green comes on only after red, and red only after amber

One relation of a lane's record before and after says what every change but three keeps of the sequence: green from green or
RED_READY, red from red, RED_READY from itself. It composes, so each operation has it from its parts. The three changes
outside it are the expiries that lead to RED_MIN and from it, each one move of one lane that its ramps then hear of. -/

namespace Sys2Proof.Machine

/-! ## The sequence of one lane -/

/-- The record `y` comes after `x` with no amber and no min red ended between them. -/
structure Lane.InSequence (x y : Lane) : Prop where
  green : y.aspect = .green → x.aspect = .green ∨ x.state = .redReady
  red : y.aspect = .red → x.aspect = .red
  ready : y.state = .redReady → x.state = .redReady

namespace Lane.InSequence

theorem refl (x : Lane) : x.InSequence x := ⟨.inl, id, id⟩

theorem trans {x y z : Lane} (h : x.InSequence y) (g : y.InSequence z) : x.InSequence z :=
  ⟨fun hz => (g.green hz).elim h.green fun hy => .inr (h.ready hy), h.red ∘ g.red, h.ready ∘ g.ready⟩

/-- A change that keeps the state and the binding. -/
theorem of_display {x y : Lane} (hs : y.state = x.state) (hr : y.ramp = x.ramp) : x.InSequence y := by
  have haspect : y.aspect = x.aspect := by simp only [Lane.aspect, hs, hr]
  exact ⟨fun h => .inl (haspect ▸ h), fun h => haspect ▸ h, fun h => hs ▸ h⟩

/-- A change that leaves no lamp commanded, whatever it does to the binding. -/
theorem of_unlit {x y : Lane} (h : y.state.aspect = .none) : x.InSequence y := by
  have haspect : y.aspect = .none := by simp [Lane.aspect, h]
  exact ⟨by simp [haspect], by simp [haspect], fun hs => by simp [hs, LaneState.aspect] at h⟩

/-- An entry to a state that is not red, and shows green only after green or RED_READY. -/
theorem enter {st : LaneState} {x : Lane} (hred : st.aspect ≠ .red)
    (hgreen : st.aspect = .green → x.state.aspect = .green ∨ x.state = .redReady) : x.InSequence (x.enter st) := by
  have hready : st ≠ .redReady := by rintro rfl; exact hred rfl
  by_cases hb : x.ramp = none
  · have hnone : (x.enter st).aspect = .none := Lane.aspect_unbound hb
    exact ⟨by simp [hnone], by simp [hnone], fun h => absurd h hready⟩
  · have hbound : (x.enter st).aspect = st.aspect := Lane.aspect_bound (x := x.enter st) hb
    rw [← Lane.aspect_bound hb] at hgreen
    exact ⟨fun h => hgreen (hbound ▸ h), fun h => absurd (hbound ▸ h) hred, fun h => absurd h hready⟩

end Lane.InSequence

theorem Lane.stopPath_inSequence (x : Lane) : x.InSequence x.stopPath := by
  unfold Lane.stopPath
  split
  case h_4 h | h_5 h | h_6 h => exact .enter (by decide) fun _ => by simp [h, LaneState.aspect]
  case h_1 | h_2 | h_3 => exact .of_unlit rfl
  all_goals exact .refl x

theorem Lane.light_inSequence (supply : Bool) (x : Lane) : x.InSequence (x.light supply) := by
  unfold Lane.light
  split <;> [skip; exact .refl x]
  cases supply <;> exact .of_unlit rfl

theorem Lane.disable_inSequence (x : Lane) : x.InSequence x.disable := by
  have hleaves : x.InSequence { x with leaving := true } := .of_display rfl rfl
  unfold Lane.disable
  split <;> [exact .of_display rfl rfl; skip]
  split <;> [exact .refl x; exact hleaves.trans (Lane.stopPath_inSequence _)]

theorem Lane.grant_inSequence {x : Lane} (h : x.state = .redReady) : x.InSequence x.grant :=
  (Lane.InSequence.enter (st := .green) (by decide) fun _ => .inr h).trans (.of_display rfl rfl)

theorem Lane.loseSupply_inSequence (stopping : Bool) (x : Lane) : x.InSequence (x.loseSupply stopping) := by
  unfold Lane.loseSupply
  split <;> [skip; exact .refl x]
  dsimp only
  split <;> exact .of_unlit rfl

theorem Lane.judgeConflict_state (q : Nat) (x : Lane) : (x.judgeConflict q).state = x.state := by
  unfold Lane.judgeConflict
  repeat' split
  all_goals rfl

theorem Lane.judgeProving_state (x before : Lane) : (x.judgeProving before).state = x.state := by
  unfold Lane.judgeProving
  repeat' split
  all_goals rfl

theorem Lane.senseChange_state (q : Nat) (levels : Lamps) (x : Lane) : (x.senseChange q levels).state = x.state := by
  unfold Lane.senseChange
  repeat' split
  · rfl
  · rfl
  · rw [Lane.judgeProving_state, Lane.judgeConflict_state]

/-- A lane after a command restart is DARK or FAULT_LOCKED (R111). -/
theorem Lane.restart_unlit (x : Lane) : x.restart.state.aspect = .none := by
  have hstate : x.restart.state = if x.isLocked then x.state else .dark := rfl
  rw [hstate]
  split
  · next h =>
    obtain ⟨cause, h⟩ := x.isLocked_iff.1 h
    rw [h]; rfl
  · rfl

/-! ## The sequence of every lane -/

/-- Every lane of `t` comes after that of `s` in sequence. -/
def State.InSequence (s t : State) : Prop := ∀ l, (s.lane l).InSequence (t.lane l)

namespace State.InSequence

theorem refl (s : State) : s.InSequence s := fun _ => .refl _

theorem trans {s t u : State} (h : s.InSequence t) (g : t.InSequence u) : s.InSequence u := fun l => (h l).trans (g l)

theorem of_lane {s t : State} (h : t.lane = s.lane) : s.InSequence t := fun l => by rw [h]; exact .refl _

theorem either {p : Prop} [Decidable p] {s t u : State} (h : p → s.InSequence t) (g : ¬ p → s.InSequence u) :
    s.InSequence (if p then t else u) := by split <;> [exact h ‹_›; exact g ‹_›]

theorem ite {p : Prop} [Decidable p] {s t : State} (h : p → s.InSequence t) : s.InSequence (if p then t else s) :=
  .either h fun _ => .refl s

end State.InSequence

theorem setLane_inSequence {s : State} {l : Fin 8} {x : Lane} (h : (s.lane l).InSequence x) :
    s.InSequence (s.setLane l x) := by
  intro i
  rw [State.setLane_lane]
  split
  · next e => rw [e]; exact h
  · exact .refl _

theorem mapLanes_inSequence {s : State} {f : Fin 8 → Lane → Lane} (h : ∀ l, (s.lane l).InSequence (f l (s.lane l))) :
    s.InSequence (s.mapLanes f) := fun l => by rw [State.mapLanes_lane]; exact h l

theorem mapMembers_inSequence {f : Lane → Lane} (h : ∀ x : Lane, x.InSequence (f x)) (s : State) (r : Fin 4) :
    s.InSequence (s.mapMembers r f) :=
  mapLanes_inSequence fun l => by split <;> [exact h _; exact .refl _]

/-- Ramps taken one after the other through a change in sequence. -/
theorem foldl_inSequence {f : State → Fin 4 → State} (h : ∀ (s : State) (r : Fin 4), s.InSequence (f s r))
    (rs : List (Fin 4)) (s : State) : s.InSequence (rs.foldl f s) := by
  induction rs generalizing s with
  | nil => exact .refl s
  | cons r rs ih => exact (h s r).trans (ih (f s r))

/-! ### The stop of a ramp and what a ramp hears -/

theorem standbyIfOut_inSequence (s : State) (r : Fin 4) : s.InSequence (s.standbyIfOut r) :=
  .of_lane (standbyIfOut_lane s r)

theorem stopRamp_inSequence (s : State) (r : Fin 4) : s.InSequence (s.stopRamp r) := by
  have hstopping : s.InSequence (s.enterStopping r) := fun l => by
    rw [enterStopping_lane]
    split <;> [exact Lane.stopPath_inSequence _; exact .refl _]
  exact .ite fun _ => hstopping.trans (standbyIfOut_inSequence _ r)

theorem refreshRamp_inSequence (s : State) (r : Fin 4) : s.InSequence (s.refreshRamp r) := by
  have hheard : s.InSequence (s.heard r) := .of_lane (heard_lane s r)
  have hable : (s.heard r).InSequence ((s.heard r).stopIfUnable r) := .ite fun _ => stopRamp_inSequence _ r
  rw [refreshRamp_eq]
  exact (hheard.trans hable).trans (standbyIfOut_inSequence _ r)

theorem refreshOf_inSequence (s : State) (b : Option (Fin 4)) : s.InSequence (s.refreshOf b) := by
  cases b with
  | none => exact .refl s
  | some r => exact refreshRamp_inSequence s r

theorem rewriteLane_inSequence {s : State} {l : Fin 8} {x : Lane} (h : (s.lane l).InSequence x) :
    s.InSequence (s.rewriteLane l x) :=
  ((setLane_inSequence h).trans (refreshOf_inSequence _ _)).trans (refreshOf_inSequence _ _)

/-! ### The other changes of a ramp's state -/

theorem enterMetering_inSequence (s : State) (r : Fin 4) (rateStart : Nat) :
    s.InSequence (s.enterMetering r rateStart) := by
  unfold State.enterMetering
  refine State.InSequence.trans (.of_lane ?_)
    ((mapMembers_inSequence (Lane.light_inSequence _) _ r).trans (.of_lane (refreshCalls_lane _ r)))
  simp [State.restartSilence, State.clearQueueTimers]

theorem startRamp_inSequence (s : State) (r : Fin 4) : s.InSequence (s.startRamp r) := by
  unfold State.startRamp
  split <;> [exact .refl s; exact enterMetering_inSequence s r _]

/-- A lane in RED_READY rests at once (R122). -/
theorem enterSuspended_inSequence (s : State) (r : Fin 4) (minutes : Nat) : s.InSequence (s.enterSuspended r minutes) := by
  unfold State.enterSuspended
  refine State.InSequence.trans (.of_lane ?_) (mapMembers_inSequence (fun x => ?_) _ r)
  · simp [State.restartSilence, State.clearQueueTimers]
  · split <;> [skip; exact .refl x]
    next h => exact .enter (by decide) fun _ => .inr h

/-- A resting lane goes to AMBER, and a DARK one leaves DARK (R115, R122). -/
theorem resumeRamp_inSequence (s : State) (r : Fin 4) : s.InSequence (s.resumeRamp r) := by
  unfold State.resumeRamp
  refine (State.InSequence.trans (.of_lane ?_) (mapMembers_inSequence (fun x => ?_) _ r)).trans
    ((mapMembers_inSequence (Lane.light_inSequence _) _ r).trans (.of_lane (refreshCalls_lane _ r)))
  · simp [State.restartSilence, State.clearQueueTimers]
  · split <;> [exact .enter (by decide) nofun; exact .refl x]

theorem closeInterval_inSequence (s : State) (r : Fin 4) : s.InSequence (s.closeInterval r) := by
  have hmeasured : s.InSequence (s.closeMeasured r) := .of_lane (State.lane_congr (by rw [closeMeasured_eq]))
  rw [closeInterval_eq]
  refine hmeasured.trans ?_
  generalize s.closeMeasured r = t
  refine .ite fun _ => ?_
  split
  · exact .either (fun _ => .either (fun _ => startRamp_inSequence t r) fun _ => .of_lane rfl) fun _ => .of_lane rfl
  · exact .either (fun _ => stopRamp_inSequence t r) fun _ => .of_lane rfl
  · exact .of_lane rfl

/-! ### Channels, conflict and the lamp supply -/

theorem rewriteChannel_lane (s : State) (c : Fin 32) (x : Channel) : (s.rewriteChannel c x).lane = s.lane := by
  simp [State.rewriteChannel]

theorem failChannel_lane (s : State) (c : Fin 32) (kind : ChannelFault) : (s.failChannel c kind).lane = s.lane := by
  simp [State.failChannel]

theorem actuate_lane (s : State) (c : Fin 32) : (s.actuate c).lane = s.lane := by
  have hactuated : (s.actuated c).lane = s.lane := by rw [actuated_frame]; rfl
  rw [actuate_eq]
  split <;> [rw [failChannel_lane, hactuated]; exact hactuated]

theorem qualifyConflict_inSequence (s : State) (l : Fin 8) (r : Fin 4) (detail : Nat) :
    s.InSequence (s.qualifyConflict l r detail) := by
  have hconflicted : s.InSequence (s.conflicted l r detail) := fun i => by
    rw [conflicted_lane]
    split
    · exact .of_unlit rfl
    · split <;> [exact .of_unlit rfl; exact .refl _]
  rw [qualifyConflict_eq]
  exact (hconflicted.trans (stopRamp_inSequence _ r)).trans (refreshRamp_inSequence _ r)

theorem loseSupply_inSequence (s : State) : s.InSequence s.loseSupply := by
  have hlost : s.InSequence s.supplyLost := fun l => by
    rw [supplyLost_lane]; exact Lane.loseSupply_inSequence _ _
  rw [loseSupply_eq]
  exact hlost.trans (foldl_inSequence refreshRamp_inSequence _ _)

theorem regainSupply_inSequence (s : State) : s.InSequence s.regainSupply := by
  intro l
  simp only [State.regainSupply, State.mapLanes_lane]
  split <;> [exact .of_unlit rfl; exact .of_display rfl rfl]

theorem supplyInput_inSequence (s : State) (high : Bool) : s.InSequence (s.supplyInput high) := by
  intro l
  by_cases h : s.lamp.lsup = high
  · rw [supplyInput_same h]; exact .refl _
  · rw [supplyInput_lane h]
    split <;> [exact .of_display rfl rfl; exact .refl _]

/-! ### Time and resets -/

theorem advance_inSequence (s : State) : s.InSequence s.advance := fun l =>
  .of_display (advance_laneState s l) ((advance_kept s).binding l)

theorem fullReset_inSequence (s : State) (kinds causes : ResetKinds) :
    s.InSequence ((s.fullReset kinds).setCauses causes) := fun l =>
  .of_unlit (by simp [State.lane, State.setCauses, State.fullReset, Lane.fullReset, LaneState.aspect])

theorem commandRestart_inSequence (s : State) : s.InSequence s.commandRestart := fun l => by
  rw [commandRestart_lane]; exact .of_unlit (Lane.restart_unlit _)

/-! ## One command -/

/-- What command `c` may do to lane `l`: as in sequence, and beyond it from RED_MIN by the lane's own MIN_RED_EXPIRY, and to
red from amber (R118, R119, R121). -/
structure Lane.Stepped (c : Instr) (l : Fin 8) (x y : Lane) : Prop where
  green : y.aspect = .green → x.aspect = .green ∨ x.state = .redReady ∨ x.state = .redMin ∧ c = .minRedExpiry l
  red : y.aspect = .red → x.aspect = .red ∨ x.aspect = .amber
  ready : y.state = .redReady → x.state = .redReady ∨ x.state = .redMin ∧ c = .minRedExpiry l

theorem Lane.InSequence.stepped {x y : Lane} (h : x.InSequence y) (c : Instr) (l : Fin 8) : x.Stepped c l y :=
  ⟨fun hy => (h.green hy).imp id .inl, fun hy => .inl (h.red hy), fun hy => .inl (h.ready hy)⟩

/-- What follows in the same command is in sequence. -/
theorem Lane.Stepped.then {c : Instr} {l : Fin 8} {x y z : Lane} (h : x.Stepped c l y) (g : y.InSequence z) :
    x.Stepped c l z :=
  ⟨fun hz => (g.green hz).elim h.green fun hy => .inr (h.ready hy), h.red ∘ g.red, h.ready ∘ g.ready⟩

/-- Whatever state the outcome hands on, each lane has stepped to it. -/
def State.SteppedIn (c : Instr) (s : State) (o : Host.Outcome State Fault Refusal) : Prop :=
  ∀ t, o = .next t → ∀ l, (s.lane l).Stepped c l (t.lane l)

section Taken
variable {c : Instr} {s : State}

theorem next_stepped {t : State} (h : s.InSequence t) : s.SteppedIn c (.next t) := by
  rintro u ⟨⟩ l; exact (h l).stepped c l

theorem event_stepped {f : State → State} (h : s.InSequence (f s)) : s.SteppedIn c (event f s) :=
  next_stepped (.either (fun _ => .refl s) fun _ => h)

theorem request_stepped {armed : Bool} {serve : State → Served} (h : s.InSequence (serve s).state) :
    s.SteppedIn c (request armed serve s) :=
  next_stepped (.either (fun _ => h.trans (.of_lane rfl)) fun _ => .of_lane (by rw [missFrame_eq]; rfl))

theorem withChannel_inSequence {b : Byte} {serve : Fin 32 → State → Served}
    (h : ∀ i, s.InSequence (serve i s).state) : s.InSequence (withChannel b serve s).state := by
  unfold withChannel; split <;> [exact .refl s; exact h _]

theorem withPlan_inSequence {b : Byte} {serve : Fin 16 → State → Served}
    (h : ∀ p, s.InSequence (serve p s).state) : s.InSequence (withPlan b serve s).state := by
  unfold withPlan; split <;> [exact .refl s; exact h _]

theorem withRamp_inSequence {b : Byte} {serve : Fin 4 → State → Served}
    (h : ∀ r, s.InSequence (serve r s).state) : s.InSequence (withRamp b serve s).state := by
  unfold withRamp; split <;> [exact .refl s; exact h _]

theorem withLane_inSequence {b : Byte} {serve : Fin 8 → State → Served}
    (h : ∀ l, s.InSequence (serve l s).state) : s.InSequence (withLane b serve s).state := by
  unfold withLane; split <;> [exact .refl s; exact h _]

end Taken

/-! ### The expiries of a state timer -/

/-- The expiry of lane `i`'s timer in state `source`: the lane steps, and what its ramp hears is in sequence. -/
theorem moveLane_stepped {c : Instr} {s : State} {i : Fin 8} {source : LaneState} {next : State → Lane → LaneState}
    (h : (s.lane i).state = source → (s.lane i).Stepped c i ((s.lane i).enter (next s (s.lane i)))) :
    s.SteppedIn c (event (fun s => s.moveLane i source (next s)) s) := by
  rintro t ⟨⟩ l
  by_cases hmoves : s.resetting = false ∧ (s.lane i).state = source
  · obtain ⟨hs, hstate⟩ := hmoves
    have hset : (s.lane l).Stepped c l ((s.setLane i ((s.lane i).enter (next s (s.lane i)))).lane l) := by
      rw [State.setLane_lane]
      split
      · next e => rw [e]; exact h hstate
      · exact (Lane.InSequence.refl _).stepped c l
    simp only [hs, Bool.false_eq_true, if_false, moveLane_moved _ hstate]
    exact hset.then (refreshOf_inSequence _ _ l)
  · have hstill : (if s.resetting = true then s else s.moveLane i source (next s)) = s := by
      split
      · rfl
      · next hs => exact moveLane_still _ fun hstate => hmoves ⟨by simpa using hs, hstate⟩
    rw [hstill]
    exact (Lane.InSequence.refl _).stepped c l

/-- An amber that ends leads to RED_MIN (R117, R120). -/
theorem enter_redMin_stepped (c : Instr) (l : Fin 8) {x : Lane} (h : x.state.aspect = .amber) :
    x.Stepped c l (x.enter .redMin) := by
  by_cases hb : x.ramp = none
  · have hnone : (x.enter .redMin).aspect = .none := Lane.aspect_unbound hb
    exact ⟨by simp [hnone], by simp [hnone], nofun⟩
  · have hred : (x.enter .redMin).aspect = .red := Lane.aspect_bound (x := x.enter .redMin) hb
    exact ⟨by simp [hred], fun _ => .inr ((Lane.aspect_bound hb).trans h), nofun⟩

/-- A min red that ends leads on from RED_MIN, by the lane's own expiry (R118). -/
theorem leave_redMin_stepped (l : Fin 8) {x : Lane} (h : x.state = .redMin) (st : LaneState) :
    x.Stepped (.minRedExpiry l) l (x.enter st) := by
  refine ⟨fun _ => .inr (.inr ⟨h, rfl⟩), fun hy => ?_, fun _ => .inr ⟨h, rfl⟩⟩
  by_cases hb : x.ramp = none
  · rw [Lane.aspect_unbound (x := x.enter st) hb] at hy
    exact nomatch hy
  · exact .inl ((Lane.aspect_bound hb).trans (by rw [h]; rfl))

/-- A transition between states that is in sequence. -/
theorem moveLane_inSequence {s : State} {l : Fin 8} {source target : LaneState} (hred : target.aspect ≠ .red)
    (hgreen : target.aspect ≠ .green) : s.InSequence (s.moveLane l source fun _ => target) :=
  .ite fun _ => rewriteLane_inSequence (.enter hred fun h => absurd h hgreen)

/-! ### The requests -/

theorem serveRestart_lane (s : State) : (serveRestart s).state.lane = s.lane := by
  unfold serveRestart
  repeat' split
  all_goals rfl

theorem serveSetLock_lane (kind : Byte) (s : State) : (serveSetLock kind s).state.lane = s.lane := by
  unfold serveSetLock
  repeat' split
  all_goals rfl

theorem serveLampSettings_lane (qualify recheckN : Nat) (s : State) :
    (serveLampSettings qualify recheckN s).state.lane = s.lane := by
  unfold serveLampSettings; split <;> rfl

theorem stageReturn_lane (s : State) : s.stageReturn.lane = s.lane := by
  simp [State.stageReturn, State.clearRuns]

theorem serveKeepalive_lane (token : Byte) (s : State) : (serveKeepalive token s).state.lane = s.lane := by
  unfold serveKeepalive
  split <;> [rfl; skip]
  split <;> [exact stageReturn_lane _; rfl]

theorem serveSupervisionSet_lane (enable t1 : Byte) (t2 : Half) (s : State) :
    (serveSupervisionSet enable t1 t2 s).state.lane = s.lane := by
  unfold serveSupervisionSet
  split <;> [rfl; skip]
  split <;> [rfl; exact stageReturn_lane _]

theorem riseOfCs_lane (s : State) : s.riseOfCs.lane = s.lane := by
  unfold State.riseOfCs
  repeat' split
  all_goals rfl

theorem fallOfCs_lane (s : State) : s.fallOfCs.lane = s.lane := by
  unfold State.fallOfCs
  split
  · show (if s.link.phase = .idle then s else s.riseOfCs).lane = s.lane
    split <;> [rfl; exact riseOfCs_lane s]
  · rw [missFrame_eq]; rfl

theorem serveDetectorConfigure_lane (role binding : Byte) (t : ChannelTimings) (c : Fin 32) (s : State) :
    (serveDetectorConfigure role binding t c s).state.lane = s.lane := by
  unfold serveDetectorConfigure
  split <;> [rfl; skip]
  split <;> [rfl; skip]
  split <;> [rfl; exact rewriteChannel_lane s c _]

theorem serveDetectorPark_lane (c : Fin 32) (s : State) : (serveDetectorPark c s).state.lane = s.lane := by
  unfold serveDetectorPark; split
  case h_1 | h_2 => rfl
  all_goals exact rewriteChannel_lane s c _

theorem serveDetectorUnpark_lane (c : Fin 32) (s : State) : (serveDetectorUnpark c s).state.lane = s.lane := by
  unfold serveDetectorUnpark; split
  case h_4 => exact rewriteChannel_lane s c _
  all_goals rfl

theorem serveDetectorRestore_lane (c : Fin 32) (s : State) : (serveDetectorRestore c s).state.lane = s.lane := by
  unfold serveDetectorRestore; split
  case h_4 => exact rewriteChannel_lane s c _
  all_goals rfl

theorem servePlanWrite_lane (sent : PlanFields) (p : Fin 16) (s : State) :
    (servePlanWrite sent p s).state.lane = s.lane := by
  unfold servePlanWrite; split <;> rfl

theorem servePlanRetire_lane (p : Fin 16) (s : State) : (servePlanRetire p s).state.lane = s.lane := by
  unfold servePlanRetire; split <;> rfl

theorem serveRampConfigure_lane (p : RampSettings) (r : Fin 4) (s : State) :
    (serveRampConfigure p r s).state.lane = s.lane := by
  unfold serveRampConfigure; split
  · rfl
  · exact State.lane_congr (by rw [acceptClamped_state, reconfigureRamp_frame])
  all_goals rfl

theorem serveRampPlan_lane (plan : Byte) (r : Fin 4) (s : State) : (serveRampPlan plan r s).state.lane = s.lane := by
  unfold serveRampPlan
  split <;> [rfl; skip]
  split <;> [rfl; skip]
  split <;> rfl

theorem serveRampMode_lane (mode : Byte) (r : Fin 4) (s : State) : (serveRampMode mode r s).state.lane = s.lane := by
  unfold serveRampMode
  split <;> [rfl; skip]
  split <;> [rfl; simp [State.clearRuns]]

theorem serveRampClose_lane (r : Fin 4) (s : State) : (serveRampClose r s).state.lane = s.lane := by
  unfold serveRampClose
  split <;> [rfl; skip]
  split <;> rfl

theorem serveRampOverride_lane (rate minutes : Nat) (r : Fin 4) (s : State) :
    (serveRampOverride rate minutes r s).state.lane = s.lane := by
  unfold serveRampOverride
  split <;> [rfl; skip]
  split <;> rfl

theorem serveRampStart_inSequence (r : Fin 4) (s : State) : s.InSequence (serveRampStart r s).state := by
  unfold serveRampStart
  split <;> [exact .refl s; skip]
  split <;> [exact .refl s; exact startRamp_inSequence s r]

theorem serveRampStop_inSequence (r : Fin 4) (s : State) : s.InSequence (serveRampStop r s).state := by
  unfold serveRampStop
  split <;> [exact .refl s; exact stopRamp_inSequence s r]

theorem serveRampSuspend_inSequence (minutes : Nat) (r : Fin 4) (s : State) :
    s.InSequence (serveRampSuspend minutes r s).state := by
  unfold serveRampSuspend
  split <;> [exact .refl s; skip]
  split <;> [exact .refl s; skip]
  split <;> [exact .refl s; exact enterSuspended_inSequence s r _]

theorem serveRampResume_inSequence (r : Fin 4) (s : State) : s.InSequence (serveRampResume r s).state := by
  unfold serveRampResume
  split <;> [exact resumeRamp_inSequence s r; exact .refl s]

/-- A lane that LANE CONFIGURE binds or frees is DARK (R128). -/
theorem serveLaneConfigure_inSequence (b : Byte) (t : LaneTimings) (l : Fin 8) (s : State) :
    s.InSequence (serveLaneConfigure b t l s).state := by
  cases hb : orNone rampOf? b with
  | none => rw [serveLaneConfigure_badRamp hb]; exact .refl s
  | some dest =>
    by_cases hdark : (s.lane l).state = .dark
    · have hwrite : s.InSequence (s.rewriteLane l ((s.lane l).configure dest t.clamp)) := by
        refine rewriteLane_inSequence (.of_unlit ?_)
        rw [Lane.configure_eq, hdark]; rfl
      cases hbar : s.bindingBar l dest with
      | some e => rw [serveLaneConfigure_barred hb hdark hbar]; exact .refl s
      | none =>
        by_cases hheld : (s.lane l).ramp ≠ dest ∧ s.laneHeld l = true
        · rw [serveLaneConfigure_held hb hdark hbar hheld.1 hheld.2]; exact .refl s
        · rw [serveLaneConfigure_unheld hb hdark hbar hheld]
          split <;> [exact .refl s; exact hwrite]
    · rw [serveLaneConfigure_lit hb hdark]; exact .refl s

theorem lightIfMetering_inSequence (s : State) {x y : Lane} (h : x.InSequence y) :
    x.InSequence (s.lightIfMetering y) := by
  unfold State.lightIfMetering
  split <;> [exact h.trans (Lane.light_inSequence _ y); exact h]

theorem serveLaneEnable_inSequence (l : Fin 8) (s : State) : s.InSequence (serveLaneEnable l s).state := by
  unfold serveLaneEnable
  split <;> [exact .refl s; skip]
  split <;> [exact .refl s; skip]
  split <;> [exact .refl s; skip]
  split <;> [exact .refl s; skip]
  exact rewriteLane_inSequence (lightIfMetering_inSequence s (.of_display rfl rfl))

theorem serveLaneRestore_inSequence (l : Fin 8) (s : State) : s.InSequence (serveLaneRestore l s).state := by
  unfold serveLaneRestore
  split <;> [exact rewriteLane_inSequence (lightIfMetering_inSequence s (.of_unlit rfl)); exact .refl s]

/-! ### The events -/

section Events
variable {c : Instr} (s : State)

theorem actuation_stepped (i : Fin 32) : s.SteppedIn c (execActuation i s) :=
  event_stepped (.ite fun _ => .of_lane (actuate_lane s i))

theorem qualifiedFallingEdge_stepped (i : Fin 32) : s.SteppedIn c (execQualifiedFallingEdge i s) :=
  event_stepped (.ite fun _ => .of_lane (refreshServed_lane _ i))

theorem acquisition_stepped (i : Fin 32) : s.SteppedIn c (execAcquisition i s) :=
  event_stepped (.ite fun _ => .of_lane (refreshServed_lane _ i))

theorem stuckOnExpiry_stepped (i : Fin 32) : s.SteppedIn c (execStuckOnExpiry i s) :=
  event_stepped (.ite fun _ => .of_lane (failChannel_lane _ i _))

theorem silenceExpiry_stepped (i : Fin 32) : s.SteppedIn c (execSilenceExpiry i s) :=
  event_stepped (.ite fun _ => .of_lane (failChannel_lane _ i _))

theorem queueCorrection_stepped (i : Fin 32) : s.SteppedIn c (execQueueCorrection i s) := by
  refine event_stepped ?_
  cases (s.chan i).duty with
  | queue r => exact .ite fun _ => .of_lane rfl
  | unused | mainline | entry | demand | passage => exact .refl s

/-- The head of a waiting list is granted in RED_READY alone (R105, R119). -/
theorem grant_stepped (r : Fin 4) : s.SteppedIn c (execGrant r s) := by
  refine event_stepped ?_
  split <;> [exact .refl s; skip]
  next l rest _ =>
  refine .ite fun h => ?_
  simp only [Bool.and_eq_true, decide_eq_true_eq] at h
  rw [grantLane_eq]
  exact State.InSequence.trans (.of_lane rfl) (setLane_inSequence (Lane.grant_inSequence h.2))

theorem lockLane_inSequence (l : Fin 8) (cause : LockCause) : s.InSequence (s.lockLane l cause) :=
  rewriteLane_inSequence (.of_unlit rfl)

theorem provingClear_stepped (l : Fin 8) : s.SteppedIn c (execProvingClear l s) :=
  event_stepped (.ite fun _ => moveLane_inSequence (by decide) (by decide))

theorem provingWindowEnd_stepped (l : Fin 8) : s.SteppedIn c (execProvingWindowEnd l s) :=
  event_stepped (.ite fun _ => State.InSequence.trans (.of_lane (raise_lane ..)) (lockLane_inSequence _ l _))

theorem redSuspectOnset_stepped (l : Fin 8) : s.SteppedIn c (execRedSuspectOnset l s) := by
  have hsuspect : s.InSequence (s.modLane l Lane.suspect) := setLane_inSequence (.of_display rfl rfl)
  refine event_stepped (.ite fun _ => ?_)
  split <;> [exact .refl s; exact hsuspect.trans (.of_lane (refreshCalls_lane _ _))]

theorem endSuspicion_inSequence (l : Fin 8) : s.InSequence (s.endSuspicion l) := by
  have hended : s.InSequence
      (s.modLane l fun x => { x with redSuspect := false, recheck := 0, transients := satAdd 255 x.transients }) :=
    setLane_inSequence (.of_display rfl rfl)
  unfold State.endSuspicion
  split <;> exact hended.trans (.of_lane rfl)

theorem failRecheck_inSequence (l : Fin 8) : s.InSequence (s.failRecheck l) := by
  have hused : s.InSequence (s.modLane l fun x => { x with rechecks := (s.lane l).rechecks + 1 }) :=
    setLane_inSequence (.of_display rfl rfl)
  refine .either (fun _ => setLane_inSequence (.of_display rfl rfl)) fun _ => ?_
  exact (hused.trans (.of_lane (raise_lane ..))).trans (lockLane_inSequence _ l _)

theorem redRecheck_stepped (l : Fin 8) : s.SteppedIn c (execRedRecheck l s) :=
  event_stepped (.either (fun _ => .refl s) fun _ =>
    .either (fun _ => setLane_inSequence (.of_display rfl rfl)) fun _ =>
      .either (fun _ => endSuspicion_inSequence s l) fun _ => failRecheck_inSequence s l)

theorem conflictQualified_stepped (l : Fin 8) : s.SteppedIn c (execConflictQualified l s) := by
  refine event_stepped ?_
  split <;> [exact qualifyConflict_inSequence s l _ _; exact .refl s]

theorem auxLampOut_stepped (l : Fin 8) : s.SteppedIn c (execAuxLampOut l s) := by
  have hmarked : s.InSequence (s.modLane l fun x => { x with auxMark := true }) :=
    setLane_inSequence (.of_display rfl rfl)
  exact event_stepped (.ite fun _ => hmarked.trans (.of_lane (raise_lane ..)))

theorem lampSenseChange_stepped (l : Fin 8) (red amber green : Bool) :
    s.SteppedIn c (execLampSenseChange l red amber green s) := by
  refine next_stepped (setLane_inSequence ?_)
  split
  · exact .of_display rfl rfl
  · exact .of_display (Lane.senseChange_state _ _ _) (Lane.senseChange_ramp _ _ _)

theorem stage1Onset_stepped : s.SteppedIn c (execStage1Onset s) :=
  event_stepped (.ite fun _ => .of_lane (by simp [State.beginStage1, State.clearRuns, State.cancelOverrides]))

theorem beginStage2_inSequence : s.InSequence s.beginStage2 := by
  have hraised : s.InSequence (raise .hostLost .part 255 2
      { s with sup := { s.sup with stage := .two, timer := (s.sup.t1 + s.sup.t2) * 10 } }) :=
    .of_lane (raise_lane ..)
  exact hraised.trans (foldl_inSequence stopRamp_inSequence _ _)

end Events

/-! ### Every command -/

/-- Each command by its own arm: the three expiries that lead to RED_MIN and from it step their lane, and every other
command is in sequence. -/
theorem exec_stepped (c : Instr) (s : State) : s.SteppedIn c (exec c s) := by
  unfold exec
  cases c with
  | startAmberExpiry l => exact moveLane_stepped fun h => enter_redMin_stepped _ l (by rw [h]; rfl)
  | amberExpiry l => exact moveLane_stepped fun h => enter_redMin_stepped _ l (by rw [h]; rfl)
  | minRedExpiry l => exact moveLane_stepped fun h => leave_redMin_stepped l h _
  | greenExpiry | flushExpiry => exact event_stepped (moveLane_inSequence (by decide) (by decide))
  | readCaps | readStatus | faultRead | faultClear | alertMask | clearCauses | restartArm =>
    exact request_stepped (.of_lane rfl)
  | keepalive token => exact request_stepped (.of_lane (serveKeepalive_lane token s))
  | supervisionSet => exact request_stepped (.of_lane (serveSupervisionSet_lane _ _ _ s))
  | setLock kind => exact request_stepped (.of_lane (serveSetLock_lane kind s))
  | restart => exact request_stepped (.of_lane (serveRestart_lane s))
  | lampSettings => exact request_stepped (.of_lane (serveLampSettings_lane _ _ s))
  | badOpcode opcode =>
    show s.SteppedIn _ (if _ then _ else _)
    split <;> [exact fun _ h => nomatch h; exact request_stepped (.refl s)]
  | commandRestart => exact next_stepped (.ite fun _ => commandRestart_inSequence s)
  | powerUpReset | pinReset | clockLossReset => exact next_stepped (fullReset_inSequence s _ _)
  | resetEnd => exact next_stepped (.ite fun _ => fullReset_inSequence s _ _)
  | frameBegin => exact next_stepped (.of_lane (fallOfCs_lane s))
  | shortFrame => exact next_stepped (.of_lane (riseOfCs_lane s))
  | detectorConfigure =>
    exact request_stepped (withChannel_inSequence fun i => .of_lane (serveDetectorConfigure_lane _ _ _ i s))
  | detectorRead => exact request_stepped (withChannel_inSequence fun _ => .refl s)
  | detectorPark => exact request_stepped (withChannel_inSequence fun i => .of_lane (serveDetectorPark_lane i s))
  | detectorUnpark => exact request_stepped (withChannel_inSequence fun i => .of_lane (serveDetectorUnpark_lane i s))
  | detectorRestore => exact request_stepped (withChannel_inSequence fun i => .of_lane (serveDetectorRestore_lane i s))
  | planWrite => exact request_stepped (withPlan_inSequence fun p => .of_lane (servePlanWrite_lane _ p s))
  | planRead => exact request_stepped (withPlan_inSequence fun _ => .refl s)
  | planRetire => exact request_stepped (withPlan_inSequence fun p => .of_lane (servePlanRetire_lane p s))
  | rampConfigure => exact request_stepped (withRamp_inSequence fun r => .of_lane (serveRampConfigure_lane _ r s))
  | rampRead => exact request_stepped (withRamp_inSequence fun _ => .refl s)
  | rampPlan => exact request_stepped (withRamp_inSequence fun r => .of_lane (serveRampPlan_lane _ r s))
  | rampMode => exact request_stepped (withRamp_inSequence fun r => .of_lane (serveRampMode_lane _ r s))
  | rampClose => exact request_stepped (withRamp_inSequence fun r => .of_lane (serveRampClose_lane r s))
  | rampStart => exact request_stepped (withRamp_inSequence fun r => serveRampStart_inSequence r s)
  | rampStop => exact request_stepped (withRamp_inSequence fun r => serveRampStop_inSequence r s)
  | rampSuspend => exact request_stepped (withRamp_inSequence fun r => serveRampSuspend_inSequence _ r s)
  | rampResume => exact request_stepped (withRamp_inSequence fun r => serveRampResume_inSequence r s)
  | rampOverride => exact request_stepped (withRamp_inSequence fun r => .of_lane (serveRampOverride_lane _ _ r s))
  | rampOverrideCancel => exact request_stepped (withRamp_inSequence fun _ => .of_lane rfl)
  | laneConfigure => exact request_stepped (withLane_inSequence fun l => serveLaneConfigure_inSequence _ _ l s)
  | laneRead => exact request_stepped (withLane_inSequence fun _ => .refl s)
  | laneEnable => exact request_stepped (withLane_inSequence fun l => serveLaneEnable_inSequence l s)
  | laneDisable => exact request_stepped (withLane_inSequence fun l => rewriteLane_inSequence (s.lane l).disable_inSequence)
  | laneRestore => exact request_stepped (withLane_inSequence fun l => serveLaneRestore_inSequence l s)
  | actuation i => exact actuation_stepped s i
  | qualifiedFallingEdge i => exact qualifiedFallingEdge_stepped s i
  | acquisition i => exact acquisition_stepped s i
  | stuckOnExpiry i => exact stuckOnExpiry_stepped s i
  | silenceExpiry i => exact silenceExpiry_stepped s i
  | chatterWindowEnd i => exact event_stepped (.ite fun _ => .of_lane rfl)
  | queueCorrection i => exact queueCorrection_stepped s i
  | emptyCorrection r | holdOffEnd r => exact event_stepped (.ite fun _ => .of_lane rfl)
  | intervalClose r => exact event_stepped (.either (fun _ => .refl s) fun _ => closeInterval_inSequence s r)
  | overrideExpiry r => exact event_stepped (.of_lane rfl)
  | suspensionExpiry r => exact event_stepped (.ite fun _ => resumeRamp_inSequence s r)
  | grant r => exact grant_stepped s r
  | provingClear l => exact provingClear_stepped s l
  | provingWindowEnd l => exact provingWindowEnd_stepped s l
  | senseSettleEnd l => exact event_stepped (setLane_inSequence (.of_display rfl rfl))
  | redSuspectOnset l => exact redSuspectOnset_stepped s l
  | redRecheck l => exact redRecheck_stepped s l
  | conflictQualified l => exact conflictQualified_stepped s l
  | auxLampOut l => exact auxLampOut_stepped s l
  | supplyLoss => exact event_stepped (.ite fun _ => loseSupply_inSequence s)
  | supplyReturn => exact event_stepped (.either (fun _ => .refl s) fun _ => regainSupply_inSequence s)
  | stage1Onset => exact stage1Onset_stepped s
  | stage2Onset => exact event_stepped (.ite fun _ => beginStage2_inSequence s)
  | detectorInputChange => exact next_stepped (.of_lane rfl)
  | lampSenseChange l red amber green => exact lampSenseChange_stepped s l red amber green
  | lampSupplyInputChange high => exact next_stepped (supplyInput_inSequence s high)

/-! ## One step -/

/-- What a command leaves of a lane whose min red has not been ended by its own expiry. -/
theorem Lane.Stepped.inSequence_of_ne {c : Instr} {l : Fin 8} {x y : Lane} (h : x.Stepped c l y)
    (hc : c ≠ .minRedExpiry l) :
    (y.aspect = .green → x.aspect = .green ∨ x.state = .redReady) ∧ (y.state = .redReady → x.state = .redReady) :=
  ⟨fun hy => (h.green hy).imp id fun hr => hr.resolve_right fun hm => hc hm.2,
    fun hy => (h.ready hy).resolve_right fun hm => hc hm.2⟩

/-- A lane in RED_MIN shows no green, so its green comes on by its own MIN_RED_EXPIRY alone. -/
theorem Lane.Stepped.minRedExpiry_of_green {c : Instr} {l : Fin 8} {x y : Lane} (h : x.Stepped c l y)
    (hy : y.aspect = .green) (hx : x.state = .redMin) : c = .minRedExpiry l := by
  obtain hgreen | hready | ⟨-, hc⟩ := h.green hy
  · unfold Lane.aspect at hgreen; split at hgreen <;> simp [hx, LaneState.aspect] at hgreen
  · simp [hx] at hready
  · exact hc

/-- A min red that ends by itself has been counted down (R114, R118). -/
theorem timer_of_minRedExpiry_due {s : State} {l : Fin 8} (h : .minRedExpiry l ∈ s.due) : (s.lane l).timer = 0 := by
  have hs : s.resetting = false := by
    cases hs : s.resetting with
    | false => rfl
    | true => simp [due_resetting hs] at h
  have hdue : (s.lane l).state = .redMin ∧ (s.lane l).timer = 0 := by
    simpa [mem_dueOfLane] using (lane_due hs l (by simp)).1 h
  exact hdue.2

/-- A step is a command that waits, one that has fallen due with none waiting, or 10 ms. -/
theorem step_stepped {s t : State} (h : step s = .next t) (l : Fin 8) :
    ∃ c, (s.lane l).Stepped c l (t.lane l) ∧ (c = .minRedExpiry l → s.pending = [] → (s.lane l).timer = 0) := by
  cases hp : s.pending with
  | cons c rest =>
    rw [step, hp] at h
    exact ⟨c, exec_stepped c { s with pending := rest } t h l, fun _ => nofun⟩
  | nil =>
    obtain ⟨hnone, hone, hmore⟩ := step_idle hp
    match hd : s.due with
    | [] =>
      rw [hnone hd, Host.Outcome.next.injEq] at h
      exact ⟨.readCaps, h ▸ (advance_inSequence s l).stepped _ l, nofun⟩
    | [e] =>
      rw [hone e hd] at h
      exact ⟨e, exec_stepped e s t h l, fun he _ => timer_of_minRedExpiry_due (by simp [hd, he])⟩
    | _ :: _ :: _ =>
      obtain ⟨e, hmem, he⟩ := hmore (by simp [hd])
      rw [he] at h
      exact ⟨e, exec_stepped e { s with choices := s.choices + 1 } t h l,
        fun he _ => timer_of_minRedExpiry_due (he ▸ hmem)⟩

/-- Settles O60: what one command may do to a lane, for the command that a step takes and for every command. -/
theorem greenComesOnlyAfterRed : Obligations.GreenComesOnlyAfterRed := by
  refine ⟨fun s t l h => ?_, fun c s t l h => ?_⟩
  · obtain ⟨c, hstep, hserved⟩ := step_stepped h l
    refine ⟨fun hgreen hnot => ?_, fun hgreen hred => hserved (hstep.minRedExpiry_of_green hgreen hred),
      fun hready hnot => ?_, hstep.red⟩
    · exact (hstep.green hgreen).resolve_left hnot |>.imp id And.left
    · obtain ⟨hred, hc⟩ := (hstep.ready hready).resolve_left hnot
      exact ⟨hred, hserved hc⟩
  · have hstep := exec_stepped c s t h l
    exact ⟨hstep.minRedExpiry_of_green, fun hready hnot => ((hstep.ready hready).resolve_left hnot).2⟩

end Sys2Proof.Machine

/-! # The lamp monitor: its settings and its checks -/

namespace Sys2Proof.Machine

/-! ## LAMP SETTINGS -/

theorem clampTo_eq_self_iff {lo hi : Nat} (h : lo ≤ hi) (x : Nat) : clampTo lo hi x = x ↔ lo ≤ x ∧ x ≤ hi := by
  unfold clampTo; omega

/-- LAMP SETTINGS reports CLAMPED exactly when one of its two operands was out of its range (R146, R171). -/
theorem clampedIf_lampSettings (q n : Nat) :
    clampedIf (clampTo 5 50 q ≠ q || clampTo 1 7 n ≠ n) = takenIf ((5 ≤ q ∧ q ≤ 50) ∧ 1 ≤ n ∧ n ≤ 7) := by
  simp only [← clampTo_eq_self_iff (show 5 ≤ 50 by decide), ← clampTo_eq_self_iff (show 1 ≤ 7 by decide)]
  by_cases hq : clampTo 5 50 q = q <;> by_cases hn : clampTo 1 7 n = n <;> simp [clampedIf, takenIf, hq, hn]

theorem serveLampSettings_locked {s : State} (h : s.locks.timing = true) (q n : Nat) :
    serveLampSettings q n s = refuse s .locked s.lamp.settingsReply := if_pos h

theorem serveLampSettings_taken {s : State} (h : s.locks.timing = false) (q n : Nat) :
    serveLampSettings q n s =
      { state := { s with lamp := { s.lamp with qualify := clampTo 5 50 q, recheckN := clampTo 1 7 n } }
        result := takenIf ((5 ≤ q ∧ q ≤ 50) ∧ 1 ≤ n ∧ n ≤ 7)
        reply := [byteOf (clampTo 5 50 q), byteOf (clampTo 1 7 n)] } := by
  rw [← clampedIf_lampSettings]
  exact if_neg (by simp [h])

/-- LAMP SETTINGS is what its service answers. -/
theorem exec_lampSettings (q n : Byte) {s : State} {v : Served} (h : s.hears = true)
    (hserve : serveLampSettings q.toNat n.toNat s = v) :
    exec (.lampSettings q n) s = .next (v.state.answered v.result v.reply) :=
  (request_answered _ h).trans (by rw [hserve])

/-- Settles O53: the refusal and the write, by the TIMING lock. -/
theorem lampSettingsWrites : Obligations.LampSettingsWrites := fun _s q n h =>
  ⟨fun hlock => exec_lampSettings q n h (serveLampSettings_locked hlock _ _),
    fun hfree => exec_lampSettings q n h (serveLampSettings_taken hfree _ _)⟩

/-! ## The conditions of the checks -/

/-- On a bound lane the settle has run out when its timer is stopped or stands at 0 (R134). -/
theorem settled_bound_iff {x : Lane} (h : x.ramp ≠ none) : x.settled = true ↔ x.settle = none ∨ x.settle = some 0 := by
  simp [settled_iff, h]

theorem canRecheck_bound_iff {s : State} {l : Fin 8} (h : (s.lane l).ramp ≠ none) :
    s.canRecheck l = true ↔ s.lamp.lsup = true ∧ ((s.lane l).settle = none ∨ (s.lane l).settle = some 0) := by
  rw [canRecheck_iff, settled_bound_iff h]

/-- The conditions of R139: the lane is bound, so its settle is judged by the timer alone. -/
theorem redDoubted_iff_settle {s : State} {l : Fin 8} :
    s.redDoubted l = true ↔
      (s.lane l).ramp ≠ none ∧ ((s.lane l).state = .redMin ∨ (s.lane l).state = .redReady)
        ∧ (s.lane l).redSuspect = false
        ∧ (s.lamp.lsup = true ∧ ((s.lane l).settle = none ∨ (s.lane l).settle = some 0))
        ∧ (s.lane l).sense.red = false := by
  rw [redDoubted_iff]
  constructor
  · rintro ⟨hb, hred, hset, hsus, hsup, hdark⟩
    exact ⟨hb, hred, hsus, ⟨hsup, (settled_bound_iff hb).1 hset⟩, hdark⟩
  · rintro ⟨hb, hred, hsus, ⟨hsup, hset⟩, hdark⟩
    exact ⟨hb, hred, (settled_bound_iff hb).2 hset, hsus, hsup, hdark⟩

/-- The conditions of R142: an unbound lane commands no lamp, so a doubted one is bound. -/
theorem auxDoubted_iff_settle {s : State} {l : Fin 8} :
    s.auxDoubted l = true ↔
      (s.lane l).ramp ≠ none ∧ (s.lane l).auxMark = false
        ∧ (s.lamp.lsup = true ∧ ((s.lane l).settle = none ∨ (s.lane l).settle = some 0))
        ∧ ((s.lane l).aspect = .green ∧ (s.lane l).sense.green = false
          ∨ (s.lane l).aspect = .amber ∧ (s.lane l).sense.amber = false) := by
  rw [auxDoubted_iff, or_comm]
  constructor
  · rintro ⟨hdark, hmark, hset, hsup⟩
    have hb : (s.lane l).ramp ≠ none := fun h => by simp [Lane.aspect_unbound h] at hdark
    exact ⟨hb, hmark, ⟨hsup, (settled_bound_iff hb).1 hset⟩, hdark⟩
  · rintro ⟨hb, hmark, ⟨hsup, hset⟩, hdark⟩
    exact ⟨hdark, hmark, (settled_bound_iff hb).2 hset, hsup⟩

/-! ## What the checks do -/

theorem State.setLane_setLane (s : State) (l : Fin 8) (x y : Lane) : (s.setLane l x).setLane l y = s.setLane l y := by
  simp [State.setLane]

/-- A lane rewritten and then locked out has its locked record, and its ramp hears of the lockout (R112, R126). -/
theorem lockLane_setLane {s : State} {l : Fin 8} {x : Lane} {r : Fin 4} (cause : LockCause) (hr : x.ramp = some r) :
    (s.setLane l x).lockLane l cause = (s.setLane l (x.enter (.faultLocked cause))).refreshRamp r := by
  rw [State.lockLane, rewriteLane_bound (Lane.enter_ramp _ _), State.setLane_lane_self, State.setLane_setLane, hr,
    State.refreshOf]

/-- What a ramp forms anew it forms from the state it leaves: neither list nor marks enter the conditions (R102, R103). -/
theorem refreshCalls_reformed (s : State) (r : Fin 4) :
    s.refreshCalls r = s.setRamp r ((s.ramp r).reformed (s.refreshCalls r) r) := by
  rw [reformed_congr (refreshCalls_rampState s r) (refreshCalls_lane s r) (refreshCalls_chan s r)]
  rfl

section Checks
variable {s : State} {l : Fin 8} {r : Fin 4}

theorem exec_senseSettleEnd_eq (l : Fin 8) (s : State) : exec (.senseSettleEnd l) s = execSenseSettleEnd l s := rfl

theorem exec_senseSettleEnd (hs : s.resetting = false) (l : Fin 8) :
    exec (.senseSettleEnd l) s = .next (s.setLane l { s.lane l with settle := none }) := by
  rw [exec_senseSettleEnd_eq, execSenseSettleEnd, event_running _ hs, State.modLane_eq]

theorem exec_senseSettleEnd_still (h : s.resetting = true ∨ (s.lane l).settle = none) :
    exec (.senseSettleEnd l) s = .next s := by
  rw [exec_senseSettleEnd_eq]
  obtain hs | hnone := h
  · exact event_resetting _ hs
  · have hsame : { s.lane l with settle := none } = s.lane l := by rw [← hnone]
    exact event_still (by rw [State.modLane_eq, hsame, setLane_same])

theorem exec_redSuspectOnset (hs : s.resetting = false) (hr : (s.lane l).ramp = some r) (h : s.redDoubted l = true) :
    exec (.redSuspectOnset l) s = .next ((s.setLane l (s.lane l).suspect).refreshCalls r) :=
  (event_running _ hs).trans (by rw [if_pos h, hr]; rfl)

theorem exec_redSuspectOnset_still (h : s.resetting = true ∨ ¬ s.redDoubted l = true) :
    exec (.redSuspectOnset l) s = .next s := by
  obtain hs | hnot := h
  · exact event_resetting _ hs
  · exact event_still (if_neg hnot)

theorem exec_redRecheck_eq (l : Fin 8) (s : State) : exec (.redRecheck l) s = execRedRecheck l s := rfl

theorem exec_redRecheck_still (h : s.resetting = true ∨ (s.lane l).redSuspect = false) :
    exec (.redRecheck l) s = .next s := by
  rw [exec_redRecheck_eq]
  obtain hs | hnot := h
  · exact event_resetting _ hs
  · exact event_still (by rw [hnot]; rfl)

/-- The re-check of a suspected lane: taken by what its red shows, or held (R140, R141). -/
theorem exec_redRecheck (hs : s.resetting = false) (hsus : (s.lane l).redSuspect = true) :
    exec (.redRecheck l) s =
      .next (if s.canRecheck l = true then
          if (s.lane l).sense.red = true then s.endSuspicion l else s.failRecheck l
        else s.setLane l { s.lane l with recheck := 0 }) := by
  rw [exec_redRecheck_eq, execRedRecheck, event_running _ hs, hsus]
  cases s.canRecheck l <;> rfl

/-- The end of a suspicion on a bound lane: reported as a transient, and its ramp forms its list anew (R103, R140). -/
theorem endSuspicion_eq (hr : (s.lane l).ramp = some r) :
    s.endSuspicion l =
      ((raise .lampTransient .lane l.val (s.lane l).rechecks s).setLane l
        { s.lane l with
          redSuspect := false, recheck := 0, transients := min ((s.lane l).transients + 1) 255 }).refreshCalls r := by
  rw [State.endSuspicion, hr]
  rfl

/-- A dark re-check short of N is counted, and the next one awaited (R140). -/
theorem failRecheck_counts (h : (s.lane l).rechecks + 1 < s.lamp.recheckN) :
    s.failRecheck l = s.setLane l { s.lane l with rechecks := (s.lane l).rechecks + 1, recheck := 50 } := if_pos h

/-- The dark re-check that reaches N locks the lane out, and its ramp hears of it (R126, R140). -/
theorem failRecheck_locks (hr : (s.lane l).ramp = some r) (h : s.lamp.recheckN ≤ (s.lane l).rechecks + 1) :
    s.failRecheck l =
      ((raise .redLampOut .lane l.val ((s.lane l).rechecks + 1) s).setLane l
        (({ s.lane l with rechecks := (s.lane l).rechecks + 1 } : Lane).enter (.faultLocked .redLamp))).refreshRamp r := by
  rw [State.failRecheck, if_neg (Nat.not_lt.2 h)]
  exact lockLane_setLane (s := raise .redLampOut .lane l.val ((s.lane l).rechecks + 1) s) .redLamp hr

theorem exec_auxLampOut (hs : s.resetting = false) (h : s.auxDoubted l = true) :
    exec (.auxLampOut l) s =
      .next ((raise .auxLampOut .lane l.val (s.lane l).aspect.code s).setLane l { s.lane l with auxMark := true }) :=
  (event_running _ hs).trans (by rw [if_pos h]; rfl)

theorem exec_auxLampOut_still (h : s.resetting = true ∨ ¬ s.auxDoubted l = true) :
    exec (.auxLampOut l) s = .next s := by
  obtain hs | hnot := h
  · exact event_resetting _ hs
  · exact event_still (if_neg hnot)

end Checks

/-- Settles O50: what each check does on a bound lane, then where it does nothing. -/
theorem lampChecks : Obligations.LampChecks := by
  refine ⟨fun s l r hs hr => ?does, fun s l => ?still⟩
  case does =>
    have hb : (s.lane l).ramp ≠ none := by simp [hr]
    have hcan := canRecheck_bound_iff hb
    refine ⟨exec_senseSettleEnd hs l, fun hred hsus hready hdark => ?suspect,
      fun hsus hnot => ?held, fun hsus hready hlit => ?ends,
      fun hsus hready hdark hfew => ?counts, fun hsus hready hdark hmany => ?locks, fun hmark hready hdark => ?aux⟩
    case suspect =>
      exact ⟨_, exec_redSuspectOnset hs hr (redDoubted_iff_settle.2 ⟨hb, hred, hsus, hready, hdark⟩),
        refreshCalls_reformed _ r⟩
    case held => rw [exec_redRecheck hs hsus, if_neg (mt hcan.1 hnot)]
    case ends =>
      rw [exec_redRecheck hs hsus, if_pos (hcan.2 hready), if_pos hlit, endSuspicion_eq hr]
      exact ⟨_, rfl, refreshCalls_reformed _ r⟩
    case counts =>
      rw [exec_redRecheck hs hsus, if_pos (hcan.2 hready), if_neg (by simp [hdark]), failRecheck_counts hfew]
    case locks =>
      rw [exec_redRecheck hs hsus, if_pos (hcan.2 hready), if_neg (by simp [hdark]), failRecheck_locks hr hmany]
      rfl
    case aux => exact exec_auxLampOut hs (auxDoubted_iff_settle.2 ⟨hb, hmark, hready, hdark⟩)
  case still =>
    refine ⟨exec_senseSettleEnd_still, fun h => exec_redSuspectOnset_still (h.imp_right fun h hdoubt => ?suspect),
      exec_redRecheck_still, fun h => exec_auxLampOut_still (h.imp_right fun h hdoubt => ?aux)⟩
    case suspect =>
      obtain ⟨hb, hred, hsus, hready, hdark⟩ := redDoubted_iff_settle.1 hdoubt
      simp [hb, hred, hsus, hready, hdark] at h
    case aux =>
      obtain ⟨hb, hmark, hready, hdark⟩ := auxDoubted_iff_settle.1 hdoubt
      simp [hb, hmark, hready, hdark] at h

end Sys2Proof.Machine

/-! # The Fault Register: onsets, FAULT CLEAR and ALERT MASK -/

namespace Sys2Proof.Machine

/-! ## The kinds and their bits -/

/-- The kind at each place of the order of section 10.1. -/
def FaultKind.atPlace : Fin 13 → FaultKind :=
  ![.detStuckOn, .detSilent, .detChatter, .mainlineLost, .queueSpill, .conflict, .redLampOut, .outputStuck, .auxLampOut,
    .lampTransient, .supplyLoss, .hostLost, .autoChange]

theorem FaultKind.atPlace_place (k : FaultKind) : FaultKind.atPlace k.place = k := by cases k <;> rfl

theorem FaultKind.place_injective : Function.Injective FaultKind.place :=
  Function.LeftInverse.injective FaultKind.atPlace_place

theorem FaultKind.number_inj {k i : FaultKind} : k.number = i.number ↔ k = i := by
  simp only [FaultKind.number, Nat.add_right_cancel_iff, Fin.val_inj, FaultKind.place_injective.eq_iff]

theorem FaultKind.number_range (k : FaultKind) : 1 ≤ k.number ∧ k.number ≤ 13 := by
  have := k.place.isLt
  unfold FaultKind.number; omega

theorem FaultKind.bitWord_getLsbD (k : FaultKind) (i : Nat) : k.bitWord.getLsbD i = decide (i = k.number) := by
  have := k.number_range
  simp only [FaultKind.bitWord, BitVec.getLsbD_ofNat, Nat.testBit_two_pow, ← Bool.decide_and]
  congr 1
  exact propext ⟨fun h => h.2.symm, fun h => ⟨by omega, h.symm⟩⟩

/-- The bits that name kinds are bits 1 to 13 (R152, R154). -/
theorem kindBits_getLsbD (i : Nat) : kindBits.getLsbD i = decide (1 ≤ i ∧ i ≤ 13) := by
  have hword : ∀ j : Fin 16, kindBits.getLsbD j = decide (1 ≤ j.val ∧ j.val ≤ 13) := by decide
  by_cases h : i < 16
  · exact hword ⟨i, h⟩
  · rw [BitVec.getLsbD_of_ge _ _ (by omega), eq_comm, decide_eq_false_iff_not]
    omega

theorem kindMask_getLsbD (mask : Half) (i : Nat) :
    (kindMask mask).getLsbD i = (mask.getLsbD i && decide (1 ≤ i ∧ i ≤ 13)) := by
  rw [kindMask, BitVec.getLsbD_and, kindBits_getLsbD]

/-- A mask operand names a kind by the bit of its number. -/
theorem kindMask_number (mask : Half) (k : FaultKind) : (kindMask mask).getLsbD k.number = mask.getLsbD k.number := by
  simp [kindMask_getLsbD, k.number_range]

/-! ## An onset -/

/-- Everything an onset leaves in the register (R149, R150). -/
theorem FaultRegister.onset_eq (x : FaultRecord) (f : FaultRegister) :
    f.onset x =
      { flags := f.flags ||| x.kind.bitWord
        counts := f.counts.set x.kind.place (satAdd 255 f.counts[x.kind.place])
        first := if x.kind.capturing then f.first.or (some x) else f.first
        further := f.further || x.kind.capturing && f.first.isSome
        mask := f.mask } := by
  unfold FaultRegister.onset FaultRegister.capture
  cases x.kind.capturing <;> cases f.first <;> simp

theorem FaultRegister.onset_flag (x : FaultRecord) (f : FaultRegister) (k : FaultKind) :
    (f.onset x).flag k = (f.flag k || decide (k = x.kind)) := by
  rw [FaultRegister.onset_eq]
  simp only [FaultRegister.flag, BitVec.getLsbD_or, FaultKind.bitWord_getLsbD, FaultKind.number_inj]

theorem FaultRegister.onset_countOf (x : FaultRecord) (f : FaultRegister) (k : FaultKind) :
    (f.onset x).countOf k = if k = x.kind then min (f.countOf k + 1) 255 else f.countOf k := by
  have hplace : x.kind.place.val = k.place.val ↔ k = x.kind := by
    rw [Fin.val_inj, FaultKind.place_injective.eq_iff, eq_comm]
  rw [FaultRegister.onset_eq]
  simp only [FaultRegister.countOf, Fin.getElem_fin, Vector.getElem_set, hplace, satAdd]
  split <;> [simp_all; rfl]

theorem FaultKind.capturing_eq_false_iff (k : FaultKind) :
    k.capturing = false ↔ k = .queueSpill ∨ k = .lampTransient ∨ k = .autoChange := by
  cases k <;> simp [FaultKind.capturing]

/-- Settles O21: the fields of the register after an onset, and the numbers of the kinds. -/
theorem onsetIsRegistered : Obligations.OnsetIsRegistered := by
  intro f x
  refine ⟨f.onset_flag x, f.onset_countOf x, ?_, fun hc hf => ?_, fun hc hf => ?_, fun hc => ?_,
    FaultKind.capturing_eq_false_iff, fun k => by cases k <;> rfl, fun _ => rfl⟩
  all_goals rw [FaultRegister.onset_eq]
  · simp [hc, hf]
  · simp [hc, hf, Option.or_of_isSome hf]
  · simp [hc]

/-! ## FAULT CLEAR -/

/-- The first-fault record is filled with a kind that the mask names. -/
def FaultRegister.recordIn (mask : BitVec 16) (f : FaultRegister) : Bool := f.first.any fun x => maskHas mask x.kind

/-- Everything FAULT CLEAR leaves in the register (R152). -/
theorem FaultRegister.clear_eq (mask : BitVec 16) (f : FaultRegister) :
    f.clear mask =
      { flags := f.flags &&& ~~~mask
        counts := Vector.ofFn fun i : Fin 13 => if mask.getLsbD (i.val + 1) then 0 else f.counts[i]
        first := if f.recordIn mask then none else f.first
        further := !f.recordIn mask && f.further
        mask := f.mask } := by
  unfold FaultRegister.clear FaultRegister.recordIn
  cases h : f.first with
  | none => rfl
  | some x => cases hm : maskHas mask x.kind <;> simp [hm]

theorem FaultRegister.clear_flag (mask : BitVec 16) (f : FaultRegister) (k : FaultKind) :
    (f.clear mask).flag k = (f.flag k && !mask.getLsbD k.number) := by
  have := k.number_range
  rw [FaultRegister.clear_eq]
  simp only [FaultRegister.flag, BitVec.getLsbD_and, BitVec.getLsbD_not, show k.number < 16 by omega, decide_true,
    Bool.true_and]

theorem FaultRegister.clear_countOf (mask : BitVec 16) (f : FaultRegister) (k : FaultKind) :
    (f.clear mask).countOf k = if mask.getLsbD k.number then 0 else f.countOf k := by
  rw [FaultRegister.clear_eq]
  simp only [FaultRegister.countOf, Fin.getElem_fin, Vector.getElem_ofFn, FaultKind.number]
  rfl

/-- The two bytes of a word in a reply (section 12.6). -/
theorem be16_toNat (w : BitVec 16) : be16 w.toNat = [w.extractLsb' 8 8, w.extractLsb' 0 8] := by
  simp only [be16, byteOf, List.cons.injEq, and_true]
  constructor <;> apply BitVec.eq_of_toNat_eq <;> simp [Nat.shiftRight_eq_div_pow]

/-- Outside a reset ALERT_N is low exactly while a flagged kind is in the alert mask (R155). -/
theorem alertLow_iff {s : State} (h : s.resetting = false) :
    s.alertLow = true ↔ s.faults.flags &&& s.faults.mask ≠ 0 := by
  simp [State.alertLow, FaultRegister.alerting, h]

theorem hears_iff (s : State) : s.hears = true ↔ s.resetting = false ∧ s.unit.restartPending = false := by
  simp [State.hears]

theorem exec_faultClear (mask : Half) {s : State} (h : s.hears = true) :
    exec (.faultClear mask) s =
      .next (({ s with faults := s.faults.clear (kindMask mask) } : State).answered .ok
        (be16 (s.faults.clear (kindMask mask)).flags.toNat)) := request_answered _ h

/-- Settles O22: the register after the clearing, kind by kind. -/
theorem faultClearByMask : Obligations.FaultClearByMask := by
  intro s mask h
  refine ⟨{ s with faults := s.faults.clear (kindMask mask) }, ?_, rfl, fun k => ?_, fun k => ?_, ?_, fun x hx hm => ?_,
    fun hkept => ?_, alertLow_iff ((hears_iff s).1 h).1⟩
  · rw [exec_faultClear mask h, be16_toNat]
  · rw [FaultRegister.clear_flag, kindMask_number]
  · rw [FaultRegister.clear_countOf, kindMask_number]
  · rw [FaultRegister.clear_eq]
  · have hin : s.faults.recordIn (kindMask mask) = true := by
      simp [FaultRegister.recordIn, maskHas, hx, kindMask_number, hm]
    simp [FaultRegister.clear_eq, hin]
  · have hout : s.faults.recordIn (kindMask mask) = false := by
      obtain hnone | ⟨x, hx, hm⟩ := hkept
      · simp [FaultRegister.recordIn, hnone]
      · simp [FaultRegister.recordIn, maskHas, hx, kindMask_number, hm]
    simp [FaultRegister.clear_eq, hout]

/-! ## ALERT MASK -/

theorem exec_alertMask (mask : Half) {s : State} (h : s.hears = true) :
    exec (.alertMask mask) s =
      .next (({ s with faults := { s.faults with mask := kindMask mask } } : State).answered .ok
        (be16 (kindMask mask).toNat)) := request_answered _ h

/-- Two words share a set bit. -/
theorem and_ne_zero_iff (v w : BitVec 16) : v &&& w ≠ 0 ↔ ∃ i, v.getLsbD i = true ∧ w.getLsbD i = true := by
  refine ⟨fun h => ?_, fun ⟨i, hv, hw⟩ h => ?_⟩
  · by_contra hnone
    refine h (BitVec.eq_of_getLsbD_eq fun i _ => ?_)
    simpa using fun hv hw => hnone ⟨i, hv, hw⟩
  · simpa [hv, hw] using congrArg (BitVec.getLsbD · i) h

/-- Settles O23: the mask held is the operand's bits 1 to 13, and ALERT_N reads it. -/
theorem alertMaskWrites : Obligations.AlertMaskWrites := by
  intro s mask h
  refine ⟨{ s with faults := { s.faults with mask := kindMask mask } }, ?_, rfl, kindMask_getLsbD mask, ?_⟩
  · rw [exec_alertMask mask h, be16_toNat]
  · rw [alertLow_iff (by exact ((hears_iff s).1 h).1), and_ne_zero_iff]
    simp only [kindMask_getLsbD, Bool.and_eq_true, decide_eq_true_eq]
    exact exists_congr fun i => by tauto

end Sys2Proof.Machine

/-! # The Fault Register, the supervision state and a pending restart stay sound through every step

Everything these three invariants read, ramp states apart, is in four registers, and most changes leave all four: a change of
channels, ramps and lanes keeps the invariants as long as no ramp comes into operation under a pending restart. Beyond that
there are the onsets, the requests that write a register, the two stages of supervision, 10 ms and the resets. -/

namespace Sys2Proof.Machine

/-! ## The Fault Register stays sound -/

namespace FaultRegister.Sound

theorem reset : FaultRegister.reset.Sound := by
  refine ⟨by decide, by decide, fun i => ?_, nofun, nofun⟩
  simp [FaultRegister.reset]

/-- An onset adds a flag of its own kind, and its record only with that flag and only if the kind captures (R149, R150). -/
theorem onset {f : FaultRegister} (h : f.Sound) (x : FaultRecord) : (f.onset x).Sound := by
  obtain ⟨hflags, hmask, hcounts, hfirst, hfurther⟩ := h
  have hflag (k : FaultKind) := f.onset_flag x k
  rw [FaultRegister.onset_eq] at hflag ⊢
  refine ⟨?_, hmask, fun i => ?_, fun y hy => ?_, fun hset => ?_⟩
  · have hbit : x.kind.bitWord &&& ~~~kindBits = 0 := by cases x.kind <;> rfl
    rw [BitVec.and_or_distrib_right, hflags, hbit]; rfl
  · have hi := hcounts i
    simp only [Fin.getElem_fin, Vector.getElem_set, satAdd] at hi ⊢
    split <;> omega
  · have hrecord : f.first = some y ∨ x.kind.capturing = true ∧ x = y := by
      split at hy
      · next hc => exact (Option.or_eq_some_iff.1 hy).imp id fun hnew => ⟨hc, Option.some.inj hnew.2⟩
      · exact .inl hy
    rw [hflag]
    obtain hold | ⟨hc, rfl⟩ := hrecord
    · exact ⟨(hfirst y hold).1, by simp [(hfirst y hold).2]⟩
    · exact ⟨hc, by simp⟩
  · have hfilled : f.first.isSome = true := by
      simp only [Bool.or_eq_true, Bool.and_eq_true] at hset
      exact hset.elim hfurther And.right
    dsimp only
    split <;> simp [hfilled]

/-- FAULT CLEAR takes the record with its kind's flag (R152). -/
theorem clear {f : FaultRegister} (h : f.Sound) (mask : BitVec 16) : (f.clear mask).Sound := by
  obtain ⟨hflags, hmask, hcounts, hfirst, hfurther⟩ := h
  have hflag (k : FaultKind) := f.clear_flag mask k
  rw [FaultRegister.clear_eq] at hflag ⊢
  refine ⟨?_, hmask, fun i => ?_, fun x hx => ?_, fun hset => ?_⟩
  · rw [BitVec.and_assoc, BitVec.and_comm (~~~mask), ← BitVec.and_assoc, hflags]; exact BitVec.zero_and
  · have hi := hcounts i
    simp only [Fin.getElem_fin, Vector.getElem_ofFn] at hi ⊢
    split <;> omega
  · obtain ⟨hout, hx⟩ : f.recordIn mask = false ∧ f.first = some x := by simpa using hx
    have hkept : mask.getLsbD x.kind.number = false := by simpa [FaultRegister.recordIn, hx, maskHas] using hout
    rw [hflag, hkept]
    exact ⟨(hfirst x hx).1, by simpa using (hfirst x hx).2⟩
  · obtain ⟨hout, hset⟩ : f.recordIn mask = false ∧ f.further = true := by simpa using hset
    simpa [hout] using hfurther hset

/-- ALERT MASK names kinds alone (R154). -/
theorem withMask {f : FaultRegister} (h : f.Sound) (mask : Half) :
    ({ f with mask := kindMask mask } : FaultRegister).Sound := by
  obtain ⟨hflags, -, hrecords⟩ := h
  refine ⟨hflags, ?_, hrecords⟩
  rw [kindMask, BitVec.and_assoc, BitVec.and_not_self]; exact BitVec.and_zero

end FaultRegister.Sound

/-! ## What keeps the three invariants -/

/-- The three invariants of O55 pass from `s` to `t`. -/
structure State.KeepsRegisters (s t : State) : Prop where
  faults : s.faults.Sound → t.faults.Sound
  supervision : s.SupervisionSound → t.SupervisionSound
  restart : s.RestartSound → t.RestartSound

/-- What the three invariants read besides the states of the ramps. -/
def State.registers (s : State) : FaultRegister × Supervision × Locks × Bool :=
  (s.faults, s.sup, s.locks, s.unit.restartPending)

theorem registers_eq_iff {s t : State} :
    t.registers = s.registers ↔
      t.faults = s.faults ∧ t.sup = s.sup ∧ t.locks = s.locks ∧ t.unit.restartPending = s.unit.restartPending := by
  simp only [State.registers, Prod.mk.injEq]

theorem supervisionSound_congr {s t : State} (hs : t.sup = s.sup) (hl : t.locks = s.locks) (h : s.SupervisionSound) :
    t.SupervisionSound := by
  unfold State.SupervisionSound at *
  rwa [hs, hl]

/-- With no restart pending nothing is asked of the ramps. -/
theorem restartSound_of_unpending {s : State} (h : s.unit.restartPending = false) : s.RestartSound := fun hp => by
  simp [h] at hp

theorem restartSound_congr {s t : State} (hp : t.unit.restartPending = s.unit.restartPending)
    (hr : t.rampState = s.rampState) (h : s.RestartSound) : t.RestartSound := by
  unfold State.RestartSound at *
  rwa [hp, hr]

namespace State.KeepsRegisters

theorem refl (s : State) : s.KeepsRegisters s := ⟨id, id, id⟩

theorem trans {s t u : State} (h : s.KeepsRegisters t) (g : t.KeepsRegisters u) : s.KeepsRegisters u :=
  ⟨g.faults ∘ h.faults, g.supervision ∘ h.supervision, g.restart ∘ h.restart⟩

theorem either {p : Prop} [Decidable p] {s t u : State} (h : p → s.KeepsRegisters t) (g : ¬ p → s.KeepsRegisters u) :
    s.KeepsRegisters (if p then t else u) := by split <;> [exact h ‹_›; exact g ‹_›]

theorem ite {p : Prop} [Decidable p] {s t : State} (h : p → s.KeepsRegisters t) :
    s.KeepsRegisters (if p then t else s) := .either h fun _ => refl s

/-- A change that leaves the registers, and brings no ramp into operation under a pending restart. -/
theorem of_registers {s t : State} (h : t.registers = s.registers) (hr : s.RestartSound → t.RestartSound) :
    s.KeepsRegisters t := by
  obtain ⟨hf, hs, hl, -⟩ := registers_eq_iff.1 h
  exact ⟨fun hsound => hf ▸ hsound, supervisionSound_congr hs hl, hr⟩

/-- A change that leaves the registers and the states of the ramps. -/
theorem of_rampState {s t : State} (h : t.registers = s.registers) (hr : t.rampState = s.rampState) :
    s.KeepsRegisters t := by
  obtain ⟨-, -, -, hpending⟩ := registers_eq_iff.1 h
  exact .of_registers h (restartSound_congr hpending hr)

/-- A change that leaves the registers, with no restart pending. -/
theorem of_unpending {s t : State} (h : t.registers = s.registers) (hp : s.unit.restartPending = false) :
    s.KeepsRegisters t := by
  obtain ⟨-, -, -, hpending⟩ := registers_eq_iff.1 h
  exact .of_registers h fun _ => restartSound_of_unpending (hpending.trans hp)

/-- A change that leaves the registers, from a state in which ramp `r` is in operation: there no restart is pending. -/
theorem of_up {s t : State} {r : Fin 4} (h : t.registers = s.registers) (hup : (s.rampState r).isUp = true) :
    s.KeepsRegisters t := by
  obtain ⟨-, -, -, hpending⟩ := registers_eq_iff.1 h
  refine .of_registers h fun hs hp => ?_
  simp [hs (hpending ▸ hp) r] at hup

end State.KeepsRegisters

theorem RecordsMove.registers {s t : State} (h : RecordsMove s t) : t.registers = s.registers := by rw [h]; rfl

theorem isUp_of_rampRuns {s : State} {r : Fin 4} (h : s.rampRuns r = true) : (s.rampState r).isUp = true := by
  obtain h | h := (rampRuns_iff s r).1 h <;> rw [h] <;> rfl

/-! ### The shared operations -/

theorem setRamp_keepsRegisters {s : State} {r : Fin 4} {x : Ramp} (h : x.ctl.state = s.rampState r) :
    s.KeepsRegisters (s.setRamp r x) := .of_rampState rfl (setRamp_rampState h)

theorem mapRamps_keepsRegisters {s : State} {f : Fin 4 → Ramp → Ramp} (h : ∀ r x, (f r x).ctl.state = x.ctl.state) :
    s.KeepsRegisters (s.mapRamps f) :=
  .of_rampState rfl (funext fun r => by simp only [State.rampState, State.mapRamps_ramp, h])

theorem mapLanes_keepsRegisters (s : State) (f : Fin 8 → Lane → Lane) : s.KeepsRegisters (s.mapLanes f) :=
  .of_rampState rfl rfl

theorem raise_keepsRegisters (k : FaultKind) (o : ObjectClass) (i d : Nat) (s : State) :
    s.KeepsRegisters (raise k o i d s) := ⟨fun h => h.onset _, id, id⟩

/-- Ramps taken one after the other through a change that keeps. -/
theorem foldl_keepsRegisters {f : State → Fin 4 → State} (h : ∀ (s : State) (r : Fin 4), s.KeepsRegisters (f s r))
    (rs : List (Fin 4)) (s : State) : s.KeepsRegisters (rs.foldl f s) := by
  induction rs generalizing s with
  | nil => exact .refl s
  | cons r rs ih => exact (h s r).trans (ih (f s r))

/-! ### Changes of a ramp's state -/

/-- No ramp is STOPPING while a restart is pending. -/
theorem standbyIfOut_keepsRegisters (s : State) (r : Fin 4) : s.KeepsRegisters (s.standbyIfOut r) := by
  refine .ite fun h => .of_up (r := r) (enterStandby_recordsMove s r).registers ?_
  simp only [Bool.and_eq_true, decide_eq_true_eq] at h
  rw [h.1]; rfl

theorem stopRamp_keepsRegisters (s : State) (r : Fin 4) : s.KeepsRegisters (s.stopRamp r) := by
  cases h : s.rampRuns r with
  | false => rw [stopRamp_still h]; exact .refl s
  | true => exact .of_up (stopRamp_recordsMove s r).registers (isUp_of_rampRuns h)

theorem refreshRamp_keepsRegisters (s : State) (r : Fin 4) : s.KeepsRegisters (s.refreshRamp r) := by
  have hheard : s.KeepsRegisters (s.heard r) := .of_rampState rfl (heard_rampState s r)
  have hable : (s.heard r).KeepsRegisters ((s.heard r).stopIfUnable r) := .ite fun _ => stopRamp_keepsRegisters _ r
  rw [refreshRamp_eq]
  exact (hheard.trans hable).trans (standbyIfOut_keepsRegisters _ r)

theorem refreshOf_recordsMove (s : State) (b : Option (Fin 4)) : RecordsMove s (s.refreshOf b) := by
  cases b with
  | none => rfl
  | some r => exact refreshRamp_recordsMove s r

theorem refreshOf_keepsRegisters (s : State) (b : Option (Fin 4)) : s.KeepsRegisters (s.refreshOf b) := by
  cases b with
  | none => exact .refl s
  | some r => exact refreshRamp_keepsRegisters s r

theorem setLane_keepsRegisters (s : State) (l : Fin 8) (x : Lane) : s.KeepsRegisters (s.setLane l x) :=
  .of_rampState rfl rfl

theorem rewriteLane_recordsMove (s : State) (l : Fin 8) (x : Lane) : RecordsMove s (s.rewriteLane l x) :=
  ((show RecordsMove s (s.setLane l x) from rfl).trans (refreshOf_recordsMove _ _)).trans (refreshOf_recordsMove _ _)

theorem rewriteLane_keepsRegisters (s : State) (l : Fin 8) (x : Lane) : s.KeepsRegisters (s.rewriteLane l x) :=
  ((setLane_keepsRegisters s l x).trans (refreshOf_keepsRegisters _ _)).trans (refreshOf_keepsRegisters _ _)

theorem moveLane_keepsRegisters (s : State) (l : Fin 8) (source : LaneState) (next : Lane → LaneState) :
    s.KeepsRegisters (s.moveLane l source next) := .ite fun _ => rewriteLane_keepsRegisters s l _

theorem startRamp_registers (s : State) (r : Fin 4) : (s.startRamp r).registers = s.registers := by
  unfold State.startRamp; split <;> [rfl; skip]
  simp [State.registers, State.enterMetering, State.lightMembers, State.mapMembers, State.restartSilence,
    State.clearQueueTimers, refreshCalls_eq]

theorem enterSuspended_registers (s : State) (r : Fin 4) (minutes : Nat) :
    (s.enterSuspended r minutes).registers = s.registers := by
  simp [State.registers, State.enterSuspended, State.mapMembers, State.restartSilence, State.clearQueueTimers]

theorem resumeRamp_registers (s : State) (r : Fin 4) : (s.resumeRamp r).registers = s.registers := by
  simp [State.registers, State.resumeRamp, State.lightMembers, State.mapMembers, State.restartSilence,
    State.clearQueueTimers, refreshCalls_eq]

/-! ### Channels -/

theorem modChan_keepsRegisters (s : State) (c : Fin 32) (f : Channel → Channel) : s.KeepsRegisters (s.modChan c f) :=
  .of_rampState rfl rfl

theorem rewriteChannel_registers (s : State) (c : Fin 32) (x : Channel) :
    (s.rewriteChannel c x).registers = s.registers := by
  rw [State.rewriteChannel, hearChannel_frame, hearChannel_frame (s.setChan c x)]; rfl

theorem refreshServed_keepsRegisters (s : State) (c : Fin 32) : s.KeepsRegisters (s.refreshServed c) :=
  .of_rampState (by rw [refreshServed_frame]; rfl) (refreshServed_rampState s c)

theorem failChannel_keepsRegisters (s : State) (c : Fin 32) (kind : ChannelFault) :
    s.KeepsRegisters (s.failChannel c kind) := by
  have hheard (t : State) : t.KeepsRegisters (t.hearChannel (s.boundRamp c)) :=
    .of_rampState (by rw [hearChannel_frame]; rfl) (hearChannel_rampState t _)
  exact ((modChan_keepsRegisters s c _).trans (raise_keepsRegisters ..)).trans (hheard _)

theorem actuate_keepsRegisters (s : State) (c : Fin 32) : s.KeepsRegisters (s.actuate c) := by
  have hstate : (s.actuated c).rampState = s.rampState := by
    funext r; simp only [State.rampState, actuated_ramp]; split <;> rfl
  have hactuated : s.KeepsRegisters (s.actuated c) := .of_rampState (by rw [actuated_frame]; rfl) hstate
  rw [actuate_eq]
  split <;> [exact hactuated.trans (failChannel_keepsRegisters _ c _); exact hactuated]

end Sys2Proof.Machine

/-! ## The interval close, the lamps, supervision, 10 ms and the resets -/

namespace Sys2Proof.Machine

/-! ### The interval close -/

theorem formStation_keepsRegisters (s : State) (r : Fin 4) : s.KeepsRegisters (s.formStation r) := by
  have hformed {x : Station} : s.KeepsRegisters (s.modRamp r fun y => { y with station := x }) :=
    setRamp_keepsRegisters rfl
  simp only [State.formStation]; split
  · exact hformed.trans (raise_keepsRegisters ..)
  · exact hformed

theorem evaluateSpill_keepsRegisters (s : State) (r : Fin 4) (p : PlanFields) :
    s.KeepsRegisters (s.evaluateSpill r p) := by
  have hjudged : s.KeepsRegisters (s.modQueue r fun q => { q with spill := s.spills r p }) := setRamp_keepsRegisters rfl
  simp only [State.evaluateSpill]; split
  · exact hjudged.trans (raise_keepsRegisters ..)
  · exact hjudged

theorem meterClose_keepsRegisters (s : State) (r : Fin 4) : s.KeepsRegisters (s.meterClose r) := by
  unfold State.meterClose; split
  · exact (evaluateSpill_keepsRegisters s r _).trans (setRamp_keepsRegisters rfl)
  · exact .refl s

theorem closeMeasured_keepsRegisters (s : State) (r : Fin 4) : s.KeepsRegisters (s.closeMeasured r) := by
  have hlatched : s.KeepsRegisters (s.afterLatch r) :=
    .of_rampState (by simp [State.registers, State.afterLatch, State.latchChannels]) (afterLatch_rampState s r)
  have hpending (t : State) : t.KeepsRegisters (t.applyPending r) :=
    .of_rampState (by rw [applyPending_eq]; rfl) (applyPending_rampState t r)
  rw [closeMeasured_afterLatch]
  exact ((hlatched.trans (formStation_keepsRegisters _ r)).trans (hpending _)).trans (meterClose_keepsRegisters _ r)

theorem setRuns_keepsRegisters (s : State) (r : Fin 4) (onRun offRun : Nat) :
    s.KeepsRegisters (s.setRuns r onRun offRun) := setRamp_keepsRegisters rfl

/-- While a restart is pending every attempt to start fails (R166). -/
theorem automaticStart_keepsRegisters (s : State) (r : Fin 4) (p : PlanFields) :
    s.KeepsRegisters (s.automaticStart r p) := by
  refine .either (fun _ => .either (fun h => ?_) fun _ => setRuns_keepsRegisters s r 0 0)
    fun _ => setRuns_keepsRegisters s r _ 0
  simp only [Bool.and_eq_true, Bool.not_eq_true'] at h
  exact State.KeepsRegisters.trans (.of_unpending (startRamp_registers s r) h.2) (raise_keepsRegisters ..)

theorem automaticStop_keepsRegisters (s : State) (r : Fin 4) (p : PlanFields) :
    s.KeepsRegisters (s.automaticStop r p) :=
  .either (fun _ => (stopRamp_keepsRegisters s r).trans (raise_keepsRegisters ..)) fun _ => setRuns_keepsRegisters s r 0 _

theorem activate_keepsRegisters (s : State) (r : Fin 4) : s.KeepsRegisters (s.activate r) := by
  unfold State.activate; split <;> [split; exact .refl s]
  · exact automaticStart_keepsRegisters s r _
  · exact automaticStop_keepsRegisters s r _
  · exact setRuns_keepsRegisters s r 0 0

theorem closeInterval_keepsRegisters (s : State) (r : Fin 4) : s.KeepsRegisters (s.closeInterval r) := by
  rw [closeInterval_eq]
  exact (closeMeasured_keepsRegisters s r).trans (activate_keepsRegisters _ r)

/-! ### The Lamp Monitor -/

theorem lockLane_keepsRegisters (s : State) (l : Fin 8) (cause : LockCause) : s.KeepsRegisters (s.lockLane l cause) :=
  rewriteLane_keepsRegisters s l _

theorem refreshCalls_keepsRegisters (s : State) (r : Fin 4) : s.KeepsRegisters (s.refreshCalls r) :=
  .of_rampState rfl (refreshCalls_rampState s r)

theorem endSuspicion_keepsRegisters (s : State) (l : Fin 8) : s.KeepsRegisters (s.endSuspicion l) := by
  have hraised : s.KeepsRegisters (raise .lampTransient .lane l.val (s.lane l).rechecks
      (s.modLane l fun x => { x with redSuspect := false, recheck := 0, transients := satAdd 255 x.transients })) :=
    (setLane_keepsRegisters s l _).trans (raise_keepsRegisters ..)
  unfold State.endSuspicion
  split <;> [exact hraised; exact hraised.trans (refreshCalls_keepsRegisters _ _)]

theorem failRecheck_keepsRegisters (s : State) (l : Fin 8) : s.KeepsRegisters (s.failRecheck l) :=
  .either (fun _ => setLane_keepsRegisters s l _) fun _ =>
    ((setLane_keepsRegisters s l _).trans (raise_keepsRegisters ..)).trans (lockLane_keepsRegisters _ l _)

theorem qualifyConflict_keepsRegisters (s : State) (l : Fin 8) (r : Fin 4) (detail : Nat) :
    s.KeepsRegisters (s.qualifyConflict l r detail) := by
  have hmoved : (raise .conflict .lane l.val detail s).KeepsRegisters (s.conflicted l r detail) :=
    .of_rampState (conflicted_recordsMove s l r detail).registers (funext fun i => by
      simp only [State.rampState, conflicted_ramp, raise_ramp]; split <;> simp_all)
  rw [qualifyConflict_eq]
  exact (((raise_keepsRegisters ..).trans hmoved).trans (stopRamp_keepsRegisters _ r)).trans
    (refreshRamp_keepsRegisters _ r)

theorem loseSupply_keepsRegisters (s : State) : s.KeepsRegisters s.loseSupply := by
  have hout : s.KeepsRegisters { s with lamp := { s.lamp with present := false, supplyTimer := 0, lsup := false } } :=
    .of_rampState rfl rfl
  have hlost : s.KeepsRegisters s.supplyLost :=
    (hout.trans (mapLanes_keepsRegisters _ _)).trans (raise_keepsRegisters ..)
  rw [loseSupply_eq]
  exact hlost.trans (foldl_keepsRegisters refreshRamp_keepsRegisters _ _)

theorem supplyInput_keepsRegisters (s : State) (high : Bool) : s.KeepsRegisters (s.supplyInput high) := by
  refine .either (fun _ => .refl s) fun _ => ?_
  cases high <;> exact .of_rampState rfl rfl

/-! ### Supervision -/

theorem clearRuns_keepsRegisters (before s : State) : s.KeepsRegisters (before.clearRuns s) :=
  mapRamps_keepsRegisters fun _ _ => by split <;> rfl

/-- The timer is set to T1 with the stage, while supervision is on (R160). -/
theorem beginStage1_keepsRegisters {s : State} (h : s.sup.enable = true) : s.KeepsRegisters s.beginStage1 := by
  have hstaged : s.KeepsRegisters { s with sup := { s.sup with stage := .one, timer := s.sup.t1 * 10 } } := by
    refine ⟨id, fun ⟨hlock, _, _, _, ht1, ht1', ht2, ht2', _⟩ => ?_, id⟩
    exact ⟨hlock, fun hoff => by simp [h] at hoff, fun _ => le_rfl, nofun, ht1, ht1', ht2, ht2', by dsimp only; omega⟩
  have hcancelled (t : State) : t.KeepsRegisters t.cancelOverrides := mapRamps_keepsRegisters fun _ _ => rfl
  exact ((hstaged.trans (hcancelled _)).trans (clearRuns_keepsRegisters s _)).trans (raise_keepsRegisters ..)

/-- The timer is set to T1 + T2 with the stage, while supervision is on (R160). -/
theorem beginStage2_keepsRegisters {s : State} (h : s.sup.enable = true) : s.KeepsRegisters s.beginStage2 := by
  have hstaged : s.KeepsRegisters { s with sup := { s.sup with stage := .two, timer := (s.sup.t1 + s.sup.t2) * 10 } } := by
    refine ⟨id, fun ⟨hlock, _, _, _, ht1, ht1', ht2, ht2', _⟩ => ?_, id⟩
    exact ⟨hlock, fun hoff => by simp [h] at hoff, nofun, fun _ => rfl, ht1, ht1', ht2, ht2', le_rfl⟩
  exact (hstaged.trans (raise_keepsRegisters ..)).trans (foldl_keepsRegisters stopRamp_keepsRegisters _ _)

/-- A supervision state at stage 0 with its timer at 0 is sound under the lock, with T1 and T2 in range (R157, R161). -/
theorem supervisionSound_atRest {s : State} (hlock : s.locks.supervision = true → s.sup.enable = true)
    (hstage : s.sup.stage = .present) (htimer : s.sup.timer = 0) (ht1 : 10 ≤ s.sup.t1 ∧ s.sup.t1 ≤ 250)
    (ht2 : 60 ≤ s.sup.t2 ∧ s.sup.t2 ≤ 3600) : s.SupervisionSound :=
  ⟨hlock, fun _ => ⟨hstage, htimer⟩, by simp [hstage], by simp [hstage], ht1.1, ht1.2, ht2.1, ht2.2, by omega⟩

/-- The return of the stage keeps a pending restart sound; the rest of what it leaves is at rest. -/
theorem stageReturn_restart {s : State} (h : s.RestartSound) : s.stageReturn.RestartSound :=
  (clearRuns_keepsRegisters s { s with sup := { s.sup with stage := .present } }).restart h

theorem serveKeepalive_keepsRegisters (token : Byte) (s : State) : s.KeepsRegisters (serveKeepalive token s).state := by
  have halive : s.KeepsRegisters (s.hostAlive token) :=
    ⟨id, fun ⟨hlock, _, _, _, ht1, ht1', ht2, ht2', _⟩ =>
      supervisionSound_atRest hlock rfl rfl ⟨ht1, ht1'⟩ ⟨ht2, ht2'⟩, stageReturn_restart⟩
  unfold serveKeepalive
  split <;> [exact .refl s; skip]
  split <;> [exact halive; exact .refl s]

/-- Supervision can be set only while it is not locked on (R158, R162). -/
theorem serveSupervisionSet_keepsRegisters (enable t1 : Byte) (t2 : Half) (s : State) :
    s.KeepsRegisters (serveSupervisionSet enable t1 t2 s).state := by
  unfold serveSupervisionSet
  split <;> [exact .refl s; skip]
  next hfree =>
  split <;> [exact .refl s; skip]
  exact ⟨id, fun _ => supervisionSound_atRest (fun hlock => absurd hlock hfree) rfl rfl
    (clampTo_range (by decide) _) (clampTo_range (by decide) _), stageReturn_restart⟩

/-- The SUPERVISION lock is taken only with supervision on (R162). -/
theorem serveSetLock_keepsRegisters (kind : Byte) (s : State) : s.KeepsRegisters (serveSetLock kind s).state := by
  unfold serveSetLock
  split
  · split <;> [exact .refl s; skip]
    split <;> [skip; exact .refl s]
    next hon => exact ⟨id, fun ⟨_, hrest⟩ => ⟨fun _ => hon, hrest⟩, id⟩
  · exact ⟨id, id, id⟩
  · exact .refl s

/-! ### 10 ms -/

theorem supervisionSound_sample {s t : State} (tick : Bool) (hs : t.sup = s.sup.sample tick) (hl : t.locks = s.locks)
    (h : s.SupervisionSound) : t.SupervisionSound := by
  obtain ⟨hlock, hoff, hone, htwo, ht1, ht1', ht2, ht2', hmax⟩ := h
  unfold State.SupervisionSound
  rw [hs, hl, Supervision.sample_eq]
  refine ⟨hlock, fun he => ⟨(hoff he).1, if_pos he⟩, fun hstage => ?_, fun hstage => ?_, ht1, ht1', ht2, ht2', ?_⟩
  all_goals dsimp only at *
  · have hon : ¬ s.sup.enable = false := fun he => by simp [(hoff he).1] at hstage
    have := hone hstage
    rw [if_neg hon]
    split <;> omega
  · have hon : ¬ s.sup.enable = false := fun he => by simp [(hoff he).1] at hstage
    have := htwo hstage
    rw [if_neg hon]
    split <;> omega
  · repeat' split
    all_goals omega

theorem advance_keepsRegisters (s : State) : s.KeepsRegisters s.advance := by
  cases h : s.resetting with
  | true => rw [advance_resetting h]; exact .refl s
  | false =>
    have hsup : s.advance.sup = s.sup.sample (decide (s.tickPhase = 9)) := by simp [State.advance, h]
    have hpending : s.advance.unit.restartPending = s.unit.restartPending := by
      simp [State.advance, h, ResetUnit.sample_eq]
    exact ⟨by rw [advance_eq]; exact id, supervisionSound_sample _ hsup (by rw [advance_eq]),
      restartSound_congr hpending (advance_rampState s)⟩

/-! ### Resets -/

/-- The supervision state of R157 is at rest. -/
theorem fullReset_supervisionSound {s : State} (hs : s.sup = Supervision.fullReset) (hl : s.locks.supervision = false) :
    s.SupervisionSound :=
  supervisionSound_atRest (by simp [hl]) (by rw [hs]; rfl) (by rw [hs]; rfl) (by rw [hs]; decide) (by rw [hs]; decide)

theorem fullReset_keepsRegisters (s : State) (kinds causes : ResetKinds) :
    s.KeepsRegisters ((s.fullReset kinds).setCauses causes) :=
  ⟨fun _ => .reset, fun _ => fullReset_supervisionSound rfl rfl, fun _ => restartSound_of_unpending rfl⟩

/-- The command restart keeps the lock, and T1 and T2 with supervision as it was set (R157). -/
theorem commandRestart_keepsRegisters (s : State) : s.KeepsRegisters s.commandRestart := by
  refine ⟨fun _ => ?_, fun ⟨hlock, _, _, _, ht1, ht1', ht2, ht2', _⟩ => ?_, fun _ => restartSound_of_unpending ?_⟩
  all_goals rw [commandRestart_eq]
  · exact .reset
  · exact supervisionSound_atRest hlock rfl rfl ⟨ht1, ht1'⟩ ⟨ht2, ht2'⟩

end Sys2Proof.Machine

/-! ## Every command keeps the three invariants -/

namespace Sys2Proof.Machine

/-! ### How a command is taken -/

/-- Whatever state the outcome hands on, the three invariants pass to it. -/
def State.KeepsRegistersIn (s : State) (o : Host.Outcome State Fault Refusal) : Prop :=
  ∀ t, o = .next t → s.KeepsRegisters t

section Taken
variable {s : State} {b : Byte}

theorem next_keepsRegisters {t : State} (h : s.KeepsRegisters t) : s.KeepsRegistersIn (.next t) := by
  rintro u ⟨⟩; exact h

theorem event_keepsRegisters {f : State → State} (h : s.KeepsRegisters (f s)) : s.KeepsRegistersIn (event f s) :=
  next_keepsRegisters (.either (fun _ => .refl s) fun _ => h)

theorem missFrame_keepsRegisters (s : State) : s.KeepsRegisters s.missFrame := .ite fun _ => .of_rampState rfl rfl

theorem request_keepsRegisters {armed : Bool} {serve : State → Served}
    (h : s.unit.restartPending = false → s.KeepsRegisters (serve s).state) :
    s.KeepsRegistersIn (request armed serve s) :=
  next_keepsRegisters (.either
    (fun hs => (h ((hears_iff s).1 hs).2).trans (.of_rampState rfl rfl)) fun _ => missFrame_keepsRegisters s)

/-- No request is heard while a restart is pending, so one that leaves the registers may move any ramp (R166). -/
theorem request_leavesRegisters {armed : Bool} {serve : State → Served} (h : (serve s).state.registers = s.registers) :
    s.KeepsRegistersIn (request armed serve s) := request_keepsRegisters (.of_unpending h)

theorem withChannel_registers {serve : Fin 32 → State → Served} (h : ∀ c, (serve c s).state.registers = s.registers) :
    (withChannel b serve s).state.registers = s.registers := by
  unfold withChannel; split <;> [rfl; exact h _]

theorem withPlan_registers {serve : Fin 16 → State → Served} (h : ∀ p, (serve p s).state.registers = s.registers) :
    (withPlan b serve s).state.registers = s.registers := by
  unfold withPlan; split <;> [rfl; exact h _]

theorem withRamp_registers {serve : Fin 4 → State → Served} (h : ∀ r, (serve r s).state.registers = s.registers) :
    (withRamp b serve s).state.registers = s.registers := by
  unfold withRamp; split <;> [rfl; exact h _]

theorem withLane_registers {serve : Fin 8 → State → Served} (h : ∀ l, (serve l s).state.registers = s.registers) :
    (withLane b serve s).state.registers = s.registers := by
  unfold withLane; split <;> [rfl; exact h _]

end Taken

/-! ### The link and the part as a whole -/

theorem riseOfCs_keepsRegisters (s : State) : s.KeepsRegisters s.riseOfCs := by
  unfold State.riseOfCs
  repeat' split
  all_goals exact .of_rampState rfl rfl

theorem fallOfCs_keepsRegisters (s : State) : s.KeepsRegisters s.fallOfCs := by
  refine .either (fun _ => ?_) fun _ => missFrame_keepsRegisters s
  refine State.KeepsRegisters.trans (t := if s.link.phase = .idle then s else s.riseOfCs) ?_ (.of_rampState rfl rfl)
  exact .either (fun _ => .refl s) fun _ => riseOfCs_keepsRegisters s

/-- A ramp in operation makes RESTART refuse (R166). -/
theorem isUp_of_not_rampsActive {s : State} (h : ¬ s.rampsActive = true) (r : Fin 4) : (s.rampState r).isUp = false := by
  have hr : ¬ ((s.rampState r = .metering ∨ s.rampState r = .suspended) ∨ s.rampState r = .stopping) := by
    simp only [State.rampsActive, List.any_eq_true, List.mem_finRange, true_and, Bool.or_eq_true, decide_eq_true_eq] at h
    exact fun hr => h ⟨r, hr⟩
  cases hs : s.rampState r <;> simp_all [RampState.isUp]

/-- RESTART is accepted only with no ramp in operation (R166). -/
theorem serveRestart_keepsRegisters (s : State) : s.KeepsRegisters (serveRestart s).state := by
  unfold serveRestart
  split <;> [exact .refl s; skip]
  split <;> [exact .refl s; skip]
  next hdown => exact ⟨id, id, fun _ _ => isUp_of_not_rampsActive hdown⟩

theorem serveLampSettings_registers (qualify recheckN : Nat) (s : State) :
    (serveLampSettings qualify recheckN s).state.registers = s.registers := by
  unfold serveLampSettings; split <;> rfl

/-! ### The requests that configure -/

theorem serveDetectorConfigure_registers (role binding : Byte) (t : ChannelTimings) (c : Fin 32) (s : State) :
    (serveDetectorConfigure role binding t c s).state.registers = s.registers := by
  unfold serveDetectorConfigure
  split <;> [rfl; skip]
  split <;> [rfl; skip]
  split <;> [rfl; exact rewriteChannel_registers s c _]

theorem serveDetectorPark_registers (c : Fin 32) (s : State) : (serveDetectorPark c s).state.registers = s.registers := by
  unfold serveDetectorPark; split
  case h_1 | h_2 => rfl
  all_goals exact rewriteChannel_registers s c _

theorem serveDetectorUnpark_registers (c : Fin 32) (s : State) :
    (serveDetectorUnpark c s).state.registers = s.registers := by
  unfold serveDetectorUnpark; split
  case h_4 => exact rewriteChannel_registers s c _
  all_goals rfl

theorem serveDetectorRestore_registers (c : Fin 32) (s : State) :
    (serveDetectorRestore c s).state.registers = s.registers := by
  unfold serveDetectorRestore; split
  case h_4 => exact rewriteChannel_registers s c _
  all_goals rfl

theorem servePlanWrite_registers (sent : PlanFields) (p : Fin 16) (s : State) :
    (servePlanWrite sent p s).state.registers = s.registers := by
  unfold servePlanWrite; split <;> rfl

theorem servePlanRetire_registers (p : Fin 16) (s : State) : (servePlanRetire p s).state.registers = s.registers := by
  unfold servePlanRetire; split <;> rfl

theorem serveRampConfigure_registers (p : RampSettings) (r : Fin 4) (s : State) :
    (serveRampConfigure p r s).state.registers = s.registers := by
  unfold serveRampConfigure; split
  · rfl
  · rw [acceptClamped_state, reconfigureRamp_frame]; rfl
  all_goals rfl

theorem serveRampPlan_registers (plan : Byte) (r : Fin 4) (s : State) :
    (serveRampPlan plan r s).state.registers = s.registers := by
  unfold serveRampPlan
  split <;> [rfl; skip]
  split <;> [rfl; skip]
  split <;> rfl

theorem serveRampMode_registers (mode : Byte) (r : Fin 4) (s : State) :
    (serveRampMode mode r s).state.registers = s.registers := by
  unfold serveRampMode
  split <;> [rfl; skip]
  split <;> rfl

theorem serveRampClose_registers (r : Fin 4) (s : State) : (serveRampClose r s).state.registers = s.registers := by
  unfold serveRampClose
  split <;> [rfl; skip]
  split <;> rfl

theorem serveRampOverride_registers (rate minutes : Nat) (r : Fin 4) (s : State) :
    (serveRampOverride rate minutes r s).state.registers = s.registers := by
  unfold serveRampOverride
  split <;> [rfl; skip]
  split <;> rfl

theorem serveRampStart_registers (r : Fin 4) (s : State) : (serveRampStart r s).state.registers = s.registers := by
  unfold serveRampStart
  split <;> [rfl; skip]
  split <;> [rfl; exact startRamp_registers s r]

theorem serveRampStop_registers (r : Fin 4) (s : State) : (serveRampStop r s).state.registers = s.registers := by
  unfold serveRampStop
  split <;> [rfl; exact (stopRamp_recordsMove s r).registers]

theorem serveRampSuspend_registers (minutes : Nat) (r : Fin 4) (s : State) :
    (serveRampSuspend minutes r s).state.registers = s.registers := by
  unfold serveRampSuspend
  split <;> [rfl; skip]
  split <;> [rfl; skip]
  split <;> [rfl; exact enterSuspended_registers s r _]

theorem serveRampResume_registers (r : Fin 4) (s : State) : (serveRampResume r s).state.registers = s.registers := by
  unfold serveRampResume
  split <;> [exact resumeRamp_registers s r; rfl]

theorem serveLaneConfigure_registers (ramp : Byte) (t : LaneTimings) (l : Fin 8) (s : State) :
    (serveLaneConfigure ramp t l s).state.registers = s.registers := by
  unfold serveLaneConfigure
  split <;> [rfl; skip]
  split <;> [rfl; skip]
  split <;> [rfl; skip]
  split <;> [rfl; skip]
  split <;> [rfl; exact (rewriteLane_recordsMove s l _).registers]

theorem serveLaneEnable_registers (l : Fin 8) (s : State) : (serveLaneEnable l s).state.registers = s.registers := by
  unfold serveLaneEnable
  split <;> [rfl; skip]
  split <;> [rfl; skip]
  split <;> [rfl; skip]
  split <;> [rfl; exact (rewriteLane_recordsMove s l _).registers]

theorem serveLaneRestore_registers (l : Fin 8) (s : State) : (serveLaneRestore l s).state.registers = s.registers := by
  unfold serveLaneRestore
  split <;> [exact (rewriteLane_recordsMove s l _).registers; rfl]

/-! ### The events -/

section Events
variable (s : State)

theorem queueCorrection_keepsRegisters (c : Fin 32) : s.KeepsRegistersIn (execQueueCorrection c s) := by
  refine event_keepsRegisters ?_
  cases (s.chan c).duty with
  | queue r => exact .ite fun _ => (modChan_keepsRegisters s c _).trans (setRamp_keepsRegisters rfl)
  | unused | mainline | entry | demand | passage => exact .refl s

/-- The suspension that ends is that of a ramp in operation (R76). -/
theorem suspensionExpiry_keepsRegisters (r : Fin 4) : s.KeepsRegistersIn (execSuspensionExpiry r s) :=
  event_keepsRegisters (.ite fun h => .of_up (resumeRamp_registers s r) (by rw [h]; rfl))

theorem grant_keepsRegisters (r : Fin 4) : s.KeepsRegistersIn (execGrant r s) := by
  refine event_keepsRegisters ?_
  split <;> [exact .refl s; refine .ite fun _ => ?_]
  rw [grantLane_eq]
  refine State.KeepsRegisters.trans ?_ (setLane_keepsRegisters ..)
  exact setRamp_keepsRegisters rfl

theorem provingWindowEnd_keepsRegisters (l : Fin 8) : s.KeepsRegistersIn (execProvingWindowEnd l s) :=
  event_keepsRegisters (.ite fun _ => (raise_keepsRegisters ..).trans (lockLane_keepsRegisters _ l _))

theorem redSuspectOnset_keepsRegisters (l : Fin 8) : s.KeepsRegistersIn (execRedSuspectOnset l s) := by
  refine event_keepsRegisters (.ite fun _ => ?_)
  split <;> [exact .refl s; exact (setLane_keepsRegisters s l _).trans (refreshCalls_keepsRegisters _ _)]

theorem redRecheck_keepsRegisters (l : Fin 8) : s.KeepsRegistersIn (execRedRecheck l s) :=
  event_keepsRegisters (.either (fun _ => .refl s) fun _ => .either (fun _ => setLane_keepsRegisters s l _) fun _ =>
    .either (fun _ => endSuspicion_keepsRegisters s l) fun _ => failRecheck_keepsRegisters s l)

theorem conflictQualified_keepsRegisters (l : Fin 8) : s.KeepsRegistersIn (execConflictQualified l s) := by
  refine event_keepsRegisters ?_
  split <;> [exact qualifyConflict_keepsRegisters s l _ _; exact .refl s]

theorem supplyReturn_keepsRegisters : s.KeepsRegistersIn (execSupplyReturn s) :=
  event_keepsRegisters (.either (fun _ => .refl s) fun _ => .of_rampState rfl rfl)

theorem stage1Onset_keepsRegisters : s.KeepsRegistersIn (execStage1Onset s) := by
  refine event_keepsRegisters (.ite fun h => beginStage1_keepsRegisters ?_)
  simp only [Bool.and_eq_true] at h
  obtain ⟨⟨hon, -⟩, -⟩ := h
  exact hon

theorem stage2Onset_keepsRegisters : s.KeepsRegistersIn (execStage2Onset s) := by
  refine event_keepsRegisters (.ite fun h => beginStage2_keepsRegisters ?_)
  simp only [Bool.and_eq_true] at h
  exact h.1

end Events

/-! ### Every command -/

/-- Each command by its own arm: a request that writes none of the registers, one that writes some of them soundly, or an
event, reset or change of a pin that keeps. -/
theorem exec_keepsRegisters (i : Instr) (s : State) : s.KeepsRegistersIn (exec i s) := by
  unfold exec
  cases i with
  | readCaps | readStatus | faultRead | clearCauses | restartArm => exact request_leavesRegisters rfl
  | faultClear mask => exact request_keepsRegisters fun _ => ⟨fun h => h.clear _, id, id⟩
  | alertMask mask => exact request_keepsRegisters fun _ => ⟨fun h => h.withMask mask, id, id⟩
  | keepalive token => exact request_keepsRegisters fun _ => serveKeepalive_keepsRegisters token s
  | supervisionSet => exact request_keepsRegisters fun _ => serveSupervisionSet_keepsRegisters _ _ _ s
  | setLock kind => exact request_keepsRegisters fun _ => serveSetLock_keepsRegisters kind s
  | restart => exact request_keepsRegisters fun _ => serveRestart_keepsRegisters s
  | lampSettings => exact request_leavesRegisters (serveLampSettings_registers _ _ s)
  | badOpcode opcode =>
    show s.KeepsRegistersIn (if _ then _ else _)
    split <;> [exact fun _ h => nomatch h; exact request_leavesRegisters rfl]
  | commandRestart => exact next_keepsRegisters (.ite fun _ => commandRestart_keepsRegisters s)
  | powerUpReset | pinReset | clockLossReset => exact next_keepsRegisters (fullReset_keepsRegisters s _ _)
  | resetEnd => exact next_keepsRegisters (.ite fun _ => fullReset_keepsRegisters s _ _)
  | frameBegin => exact next_keepsRegisters (fallOfCs_keepsRegisters s)
  | shortFrame => exact next_keepsRegisters (riseOfCs_keepsRegisters s)
  | detectorConfigure =>
    exact request_leavesRegisters (withChannel_registers fun c => serveDetectorConfigure_registers _ _ _ c s)
  | detectorPark => exact request_leavesRegisters (withChannel_registers fun c => serveDetectorPark_registers c s)
  | detectorUnpark => exact request_leavesRegisters (withChannel_registers fun c => serveDetectorUnpark_registers c s)
  | detectorRestore => exact request_leavesRegisters (withChannel_registers fun c => serveDetectorRestore_registers c s)
  | detectorRead => exact request_leavesRegisters (withChannel_registers fun _ => rfl)
  | planWrite => exact request_leavesRegisters (withPlan_registers fun p => servePlanWrite_registers _ p s)
  | planRetire => exact request_leavesRegisters (withPlan_registers fun p => servePlanRetire_registers p s)
  | planRead => exact request_leavesRegisters (withPlan_registers fun _ => rfl)
  | rampConfigure => exact request_leavesRegisters (withRamp_registers fun r => serveRampConfigure_registers _ r s)
  | rampPlan => exact request_leavesRegisters (withRamp_registers fun r => serveRampPlan_registers _ r s)
  | rampMode => exact request_leavesRegisters (withRamp_registers fun r => serveRampMode_registers _ r s)
  | rampClose => exact request_leavesRegisters (withRamp_registers fun r => serveRampClose_registers r s)
  | rampStart => exact request_leavesRegisters (withRamp_registers fun r => serveRampStart_registers r s)
  | rampStop => exact request_leavesRegisters (withRamp_registers fun r => serveRampStop_registers r s)
  | rampSuspend => exact request_leavesRegisters (withRamp_registers fun r => serveRampSuspend_registers _ r s)
  | rampResume => exact request_leavesRegisters (withRamp_registers fun r => serveRampResume_registers r s)
  | rampOverride => exact request_leavesRegisters (withRamp_registers fun r => serveRampOverride_registers _ _ r s)
  | rampOverrideCancel | rampRead => exact request_leavesRegisters (withRamp_registers fun _ => rfl)
  | laneConfigure => exact request_leavesRegisters (withLane_registers fun l => serveLaneConfigure_registers _ _ l s)
  | laneEnable => exact request_leavesRegisters (withLane_registers fun l => serveLaneEnable_registers l s)
  | laneDisable =>
    exact request_leavesRegisters (withLane_registers fun l => (rewriteLane_recordsMove s l _).registers)
  | laneRestore => exact request_leavesRegisters (withLane_registers fun l => serveLaneRestore_registers l s)
  | laneRead => exact request_leavesRegisters (withLane_registers fun _ => rfl)
  | actuation c => exact event_keepsRegisters (.ite fun _ => actuate_keepsRegisters s c)
  | qualifiedFallingEdge c | acquisition c =>
    exact event_keepsRegisters
      (.ite fun _ => (modChan_keepsRegisters s c _).trans (refreshServed_keepsRegisters _ c))
  | stuckOnExpiry c | silenceExpiry c =>
    exact event_keepsRegisters
      (.ite fun _ => (modChan_keepsRegisters s c _).trans (failChannel_keepsRegisters _ c _))
  | chatterWindowEnd c => exact event_keepsRegisters (.ite fun _ => modChan_keepsRegisters s c _)
  | queueCorrection c => exact queueCorrection_keepsRegisters s c
  | emptyCorrection r | holdOffEnd r => exact event_keepsRegisters (.ite fun _ => setRamp_keepsRegisters rfl)
  | overrideExpiry r => exact event_keepsRegisters (setRamp_keepsRegisters rfl)
  | intervalClose r => exact event_keepsRegisters (.either (fun _ => .refl s) fun _ => closeInterval_keepsRegisters s r)
  | suspensionExpiry r => exact suspensionExpiry_keepsRegisters s r
  | grant r => exact grant_keepsRegisters s r
  | provingClear l => exact event_keepsRegisters (.ite fun _ => moveLane_keepsRegisters s l _ _)
  | startAmberExpiry l | minRedExpiry l | greenExpiry l | amberExpiry l | flushExpiry l =>
    exact event_keepsRegisters (moveLane_keepsRegisters s l _ _)
  | provingWindowEnd l => exact provingWindowEnd_keepsRegisters s l
  | senseSettleEnd l => exact event_keepsRegisters (setLane_keepsRegisters s l _)
  | redSuspectOnset l => exact redSuspectOnset_keepsRegisters s l
  | redRecheck l => exact redRecheck_keepsRegisters s l
  | conflictQualified l => exact conflictQualified_keepsRegisters s l
  | auxLampOut l =>
    exact event_keepsRegisters (.ite fun _ => (setLane_keepsRegisters s l _).trans (raise_keepsRegisters ..))
  | supplyLoss => exact event_keepsRegisters (.ite fun _ => loseSupply_keepsRegisters s)
  | supplyReturn => exact supplyReturn_keepsRegisters s
  | stage1Onset => exact stage1Onset_keepsRegisters s
  | stage2Onset => exact stage2Onset_keepsRegisters s
  | detectorInputChange c => exact next_keepsRegisters (modChan_keepsRegisters s c _)
  | lampSenseChange l => exact next_keepsRegisters (setLane_keepsRegisters s l _)
  | lampSupplyInputChange high => exact next_keepsRegisters (supplyInput_keepsRegisters s high)

/-- Settles O55: the front command, or with none waiting an event due or 10 ms. -/
theorem registersStaySound : Obligations.RegistersStaySound := by
  intro s t h
  have hstep : s.KeepsRegistersIn (step s) := by
    cases hp : s.pending with
    | cons c rest =>
      have htaken : s.KeepsRegisters { s with pending := rest } := .of_rampState rfl rfl
      rw [step, hp]
      exact fun u hu => htaken.trans (exec_keepsRegisters c { s with pending := rest } u hu)
    | nil =>
      obtain ⟨hnone, hone, hmore⟩ := step_idle hp
      match hd : s.due with
      | [] => exact hnone hd ▸ next_keepsRegisters (advance_keepsRegisters s)
      | [e] => exact hone e hd ▸ exec_keepsRegisters e s
      | _ :: _ :: _ =>
        obtain ⟨e, -, he⟩ := hmore (by simp [hd])
        have hchosen : s.KeepsRegisters { s with choices := s.choices + 1 } := .of_rampState rfl rfl
        rw [he]
        exact fun u hu => hchosen.trans (exec_keepsRegisters e { s with choices := s.choices + 1 } u hu)
  obtain ⟨hfaults, hsupervision, hrestart⟩ := hstep t h
  exact ⟨hfaults, hsupervision, hrestart⟩

end Sys2Proof.Machine

/-! # The state after reset is sound -/

namespace Sys2Proof.Machine

/-! ## The records after reset -/

theorem reset_chan (c : Fin 32) : State.reset.chan c = Channel.fullReset false := by simp [State.reset, State.chan]

theorem reset_plan (p : Fin 16) : State.reset.plan p = Plan.free := by simp [State.reset, State.plan]

theorem reset_ramp (r : Fin 4) : State.reset.ramp r = Ramp.fullReset := by simp [State.reset, State.ramp]

theorem reset_lane (l : Fin 8) : State.reset.lane l = Lane.fullReset Lamps.dark := by simp [State.reset, State.lane]

/-- Every ramp is CLOSED after reset (R59). -/
theorem reset_rampState (r : Fin 4) : State.reset.rampState r = .closed := by rw [State.rampState, reset_ramp]; rfl

/-- No lane is bound after reset (R110). -/
theorem reset_members (r : Fin 4) : State.reset.members r = [] := by simp [State.members, reset_lane, Lane.fullReset]

theorem reset_rampRuns (r : Fin 4) : State.reset.rampRuns r = false :=
  not_rampRuns (by simp [reset_rampState])

/-! ## The invariants after reset -/

/-- Every plan is FREE and no ramp names one (R47, R59). -/
theorem reset_plansSound : State.reset.PlansSound :=
  (plansSound_iff _).2 ⟨fun p => reset_plan p ▸ ⟨PlanFields.free_inRange, fun _ => rfl⟩,
    fun r => reset_ramp r ▸ Ramp.fullReset_plansOk _⟩

/-- Every channel is UNUSED and no lane is bound (R1, R110). -/
theorem reset_bindingsSound : State.reset.BindingsSound := by
  refine ⟨fun c hc => ?_, fun l r hl => ?_, fun r => ?_, fun c => ?_⟩
  · exact absurd (by rw [reset_chan]; rfl) hc
  · rw [reset_lane] at hl; exact nomatch hl
  · simp [reset_members]
  · simp [reset_chan, Channel.fullReset]

/-- Every lane is DARK, not red-suspect (R110). -/
theorem reset_displaySound : State.reset.DisplaySound := by
  intro l
  simp [reset_lane, Lane.fullReset, Lane.isLit, Lane.isOut, LaneState.aspect, LaneState.serves]

/-- Every waiting list is empty, and with no ramp METERING no lane is called (R98, R102). -/
theorem reset_waitingSound : State.reset.WaitingSound := by
  intro r
  simp [reset_ramp, Ramp.fullReset, Scheduler.fullReset, State.calls, reset_rampState]

/-- Every lane has its timings in range and no ramp runs; the ceiling of no able lane is 0 (R80, R110). -/
theorem reset_meteringSound : State.reset.MeteringSound := by
  refine ⟨fun l => ?_, fun r => ?_, fun r hr => ?_, fun r hfresh => ?_⟩
  · simp [reset_lane, LaneTimings.InRange, Lane.timings, Lane.fullReset]
  · simp [reset_ramp, Ramp.fullReset, Rate.fullReset, State.ceilingOf, State.ableLanes, reset_members]
  · simp [reset_rampRuns] at hr
  · simp [reset_ramp, Ramp.fullReset, Scheduler.fullReset] at hfresh

/-- Settles O59: each invariant from the values of the records it reads. -/
theorem resetIsSound : Obligations.ResetIsSound :=
  ⟨.reset, fullReset_supervisionSound rfl rfl, restartSound_of_unpending rfl, reset_plansSound, reset_bindingsSound,
    fun r => (reset_ramp r ▸ Ramp.fullReset_queueOk :), fun r => (reset_ramp r ▸ Ramp.fullReset_optionsOk :),
    reset_displaySound, reset_waitingSound, reset_meteringSound⟩

end Sys2Proof.Machine

/-! # KEEPALIVE, SUPERVISION SET, RESTART and CLEAR CAUSES, and the onset of stage 1 -/

namespace Sys2Proof.Machine

/-! ## The effective mode as the stage changes -/

theorem effectiveMode_eq (s : State) (r : Fin 4) :
    s.effectiveMode r = if s.sup.stage = .present then (s.ramp r).ctl.mode else .auto := rfl

/-- The run counters are cleared ramp by ramp where the effective mode has changed (R69). -/
theorem clearRuns_ramp (before s : State) (r : Fin 4) :
    (before.clearRuns s).ramp r =
      if before.effectiveMode r = s.effectiveMode r then s.ramp r
      else { s.ramp r with ctl := { (s.ramp r).ctl with onRun := 0, offRun := 0 } } := by
  simp [State.clearRuns]

/-- The return of the stage writes the stage and the run counters alone (R161). -/
theorem stageReturn_frame (s : State) :
    s.stageReturn = { s with sup := { s.sup with stage := .present }, ramps := s.stageReturn.ramps } := rfl

/-- The return to stage 0 clears the run counters of a ramp in mode HOST, if the stage was 1 or 2 (R69, R161). -/
theorem stageReturn_ramp (s : State) (r : Fin 4) : s.stageReturn.ramp r = runsAfterReturn s (s.ramp r) := by
  have hafter : ({ s with sup := { s.sup with stage := .present } } : State).effectiveMode r = (s.ramp r).ctl.mode := rfl
  rw [State.stageReturn, clearRuns_ramp, hafter, effectiveMode_eq, runsAfterReturn, State.with_sup_ramp]
  by_cases hs : s.sup.stage = .present
  · simp [hs]
  · cases hm : (s.ramp r).ctl.mode <;> simp [hs]

/-! ## KEEPALIVE -/

theorem serveKeepalive_off (token : Byte) {s : State} (h : s.sup.enable = false) :
    serveKeepalive token s = accept s s.keepaliveReply := by simp [serveKeepalive, h]

theorem serveKeepalive_accepted {token : Byte} {s : State} (hon : s.sup.enable = true)
    (h : s.sup.firstMark = true ∨ token = s.sup.lastToken + 1) :
    serveKeepalive token s = accept (s.hostAlive token) (s.hostAlive token).keepaliveReply := by
  rw [serveKeepalive, if_neg (by simp [hon]), if_pos (by simpa using h)]

theorem serveKeepalive_refused {token : Byte} {s : State} (hon : s.sup.enable = true) (hfirst : s.sup.firstMark = false)
    (h : token ≠ s.sup.lastToken + 1) : serveKeepalive token s = refuse s .sequence s.keepaliveReply := by
  rw [serveKeepalive, if_neg (by simp [hon]), if_neg (by simpa [hfirst] using h)]

/-- Settles O12: the three rows of the table of R159. -/
theorem keepaliveByToken : Obligations.KeepaliveByToken := by
  intro s token hs
  have hexec : exec (.keepalive token) s = .next ((serveKeepalive token s).state.answered (serveKeepalive token s).result
      (serveKeepalive token s).reply) := request_answered (serveKeepalive token) hs
  rw [hexec]
  refine ⟨fun hoff => ?_, fun hon htoken => ⟨s.hostAlive token, ?_, stageReturn_frame _, stageReturn_ramp _⟩,
    fun hon hfirst htoken => ?_⟩
  · rw [serveKeepalive_off token hoff]; rfl
  · rw [serveKeepalive_accepted hon htoken]; rfl
  · rw [serveKeepalive_refused hon hfirst htoken]; rfl

/-! ## SUPERVISION SET -/

theorem serveSupervisionSet_locked (enable t1 : Byte) (t2 : Half) {s : State} (h : s.locks.supervision = true) :
    serveSupervisionSet enable t1 t2 s = refuse s .locked := by simp [serveSupervisionSet, h]

theorem serveSupervisionSet_badValue {enable : Byte} (t1 : Byte) (t2 : Half) {s : State} (h : s.locks.supervision = false)
    (he : 1 < enable.toNat) : serveSupervisionSet enable t1 t2 s = refuse s .badValue := by
  simp [serveSupervisionSet, h, he]

/-- The part with the settings of SUPERVISION SET written, before the return of the stage (R158). -/
def State.supervised (s : State) (enable t1 : Byte) (t2 : Half) : State :=
  { s with sup := s.sup.set (enable = 1) t1.toNat t2.toNat }

theorem serveSupervisionSet_taken {enable : Byte} (t1 : Byte) (t2 : Half) {s : State} (h : s.locks.supervision = false)
    (he : enable.toNat ≤ 1) :
    serveSupervisionSet enable t1 t2 s =
      acceptClamped (s.supervised enable t1 t2).stageReturn
        (clampTo 10 250 t1.toNat ≠ t1.toNat || clampTo 60 3600 t2.toNat ≠ t2.toNat) := by
  simp only [serveSupervisionSet, h, Nat.not_lt.2 he, Bool.false_eq_true, if_false]; rfl

/-- CLAMPED is reported exactly when one of two clamped operands was out of its range (R171). -/
theorem clampedIf_outOfRange {lo₁ hi₁ lo₂ hi₂ : Nat} (h₁ : lo₁ ≤ hi₁) (h₂ : lo₂ ≤ hi₂) (x y : Nat) :
    clampedIf (clampTo lo₁ hi₁ x ≠ x || clampTo lo₂ hi₂ y ≠ y) =
      takenIf ((lo₁ ≤ x ∧ x ≤ hi₁) ∧ lo₂ ≤ y ∧ y ≤ hi₂) := by
  simp only [← clampTo_eq_self_iff h₁, ← clampTo_eq_self_iff h₂]
  by_cases hx : clampTo lo₁ hi₁ x = x <;> by_cases hy : clampTo lo₂ hi₂ y = y <;> simp [clampedIf, takenIf, hx, hy]

theorem enable_eq_one_iff (enable : Byte) : enable = 1 ↔ enable.toNat = 1 := by
  rw [← BitVec.toNat_inj]; rfl

/-- Settles O13. -/
theorem supervisionSetWrites : Obligations.SupervisionSetWrites := by
  intro s enable t1 t2 hs
  have hexec : exec (.supervisionSet enable t1 t2) s =
      .next ((serveSupervisionSet enable t1 t2 s).state.answered (serveSupervisionSet enable t1 t2 s).result
        (serveSupervisionSet enable t1 t2 s).reply) := request_answered (serveSupervisionSet enable t1 t2) hs
  rw [hexec]
  refine ⟨fun hl => ?_, fun hl he => ?_, fun hl he => ⟨(s.supervised enable t1 t2).stageReturn, ?_, ?_,
    stageReturn_ramp _⟩⟩
  · rw [serveSupervisionSet_locked enable t1 t2 hl]; rfl
  · rw [serveSupervisionSet_badValue t1 t2 hl he]; rfl
  · rw [serveSupervisionSet_taken t1 t2 hl he, ← clampedIf_outOfRange (show 10 ≤ 250 by decide) (show 60 ≤ 3600 by decide)]; rfl
  · rw [stageReturn_frame]
    simp only [State.supervised, Supervision.set, enable_eq_one_iff]
    rfl

/-! ## RESTART ARM, RESTART and CLEAR CAUSES -/

theorem rampsActive_iff (s : State) : s.rampsActive = true ↔ ∃ r, (s.rampState r).isUp = true := by
  have hup (r : Fin 4) : (s.rampState r).isUp = true ↔
      (s.rampState r = .metering ∨ s.rampState r = .suspended) ∨ s.rampState r = .stopping := by
    cases s.rampState r <;> simp [RampState.isUp]
  simp only [State.rampsActive, List.any_eq_true, List.mem_finRange, true_and, Bool.or_eq_true, decide_eq_true_eq, hup]

/-- Settles O20: the checks of RESTART in their order (R166), with the arming mark of R165. -/
theorem restartAndCauseRequests : Obligations.RestartAndCauseRequests := by
  intro s hs
  have hrestart : exec .restart s =
      .next ((serveRestart s).state.answered (serveRestart s).result (serveRestart s).reply) :=
    request_answered serveRestart hs
  rw [hrestart]
  refine ⟨request_heard true (fun s => accept s) hs, fun hoff => ?_, fun hon hup => ?_, fun hon hdown => ?_,
    request_answered
      (fun s => accept { s with unit := { s.unit with
        causes := { power := false, pin := false, clock := false, command := false } } }) hs⟩
  · simp [serveRestart, hoff]
  · simp [serveRestart, hon, (rampsActive_iff s).2 hup]
  · have hidle : s.rampsActive = false := by
      rw [← Bool.not_eq_true, rampsActive_iff]
      simp [hdown]
    simp [serveRestart, hon, hidle]

/-! ## The onset of stage 1 -/

theorem exec_stage1Onset {s : State} (hs : s.resetting = false) :
    exec .stage1Onset s =
      .next (if s.sup.enable = true ∧ s.sup.stage = .present ∧ s.sup.keptAlive = false then s.beginStage1 else s) := by
  show execStage1Onset s = _
  rw [execStage1Onset, event_running _ hs]
  simp only [Bool.and_eq_true, decide_eq_true_eq, Bool.not_eq_true', and_assoc]

/-- The onset of stage 1 writes the stage, the timer and the report, and of the ramps alone more (R160). -/
theorem beginStage1_frame (s : State) :
    s.beginStage1 =
      { s with
        sup := { s.sup with stage := .one, timer := s.sup.t1 * 10 }
        faults := s.faults.onset
          { kind := .hostLost, object := .part, index := 255, detail := 1, uptime := s.unit.uptime }
        ramps := s.beginStage1.ramps } := rfl

/-- The onset of stage 1 from stage 0 cancels every override and changes the effective mode of the ramps in mode HOST
(R69, R160). -/
theorem beginStage1_ramp {s : State} (h : s.sup.stage = .present) (r : Fin 4) :
    s.beginStage1.ramp r = { s.ramp r with ctl := { (s.ramp r).ctl with
      override := none
      onRun := if (s.ramp r).ctl.mode = .host then 0 else (s.ramp r).ctl.onRun
      offRun := if (s.ramp r).ctl.mode = .host then 0 else (s.ramp r).ctl.offRun } } := by
  simp only [State.beginStage1, raise_ramp, clearRuns_ramp, State.cancelOverrides, State.mapRamps_ramp, effectiveMode_eq,
    State.mapRamps_sup, h]
  cases hm : (s.ramp r).ctl.mode <;> simp [hm]

/-- Settles O15. -/
theorem stageOneOnset : Obligations.StageOneOnset := by
  refine ⟨fun s hs hon hstage => ⟨fun hkept => ?_, fun hkept => ⟨s.beginStage1, ?_, beginStage1_frame s,
    beginStage1_ramp hstage⟩⟩, fun s h => ?_⟩
  · simp [exec_stage1Onset hs, hkept]
  · simp [exec_stage1Onset hs, hon, hstage, hkept]
  · cases hs : s.resetting with
    | true => exact event_resetting _ hs
    | false => 
      rw [exec_stage1Onset hs, if_neg]
      rintro ⟨hon, hstage, -⟩
      simp [hs, hon, hstage] at h

end Sys2Proof.Machine

/-! # Full resets -/

namespace Sys2Proof.Machine

/-! ## The values a full reset gives -/

section FullReset
variable (kinds causes : ResetKinds) (s : State)

/-- Every channel at its full-reset value, the level of its pin as it was (R1). -/
theorem fullReset_chan (c : Fin 32) :
    ((s.fullReset kinds).setCauses causes).chan c = { State.reset.chan c with input := (s.chan c).input } := by
  rw [reset_chan]; simp [State.chan, State.setCauses, State.fullReset, Channel.fullReset]

theorem fullReset_plans : ((s.fullReset kinds).setCauses causes).plans = State.reset.plans := by
  ext i hi : 1; simp [State.setCauses, State.fullReset, State.reset]

theorem fullReset_ramps : ((s.fullReset kinds).setCauses causes).ramps = State.reset.ramps := by
  ext i hi : 1; simp [State.setCauses, State.fullReset, State.reset]

/-- Every lane at its full-reset value, the levels of its sense inputs as they were (R110, R133). -/
theorem fullReset_lane (l : Fin 8) :
    ((s.fullReset kinds).setCauses causes).lane l = { State.reset.lane l with sense := (s.lane l).sense } := by
  rw [reset_lane]; simp [State.lane, State.setCauses, State.fullReset, Lane.fullReset]

/-- Cut by a reset the link holds no frame, and waits for CS_N to rise where it is low (R167, R169). -/
theorem fullReset_link : ((s.fullReset kinds).setCauses causes).link =
    { phase := if s.link.phase = .idle then .idle else .waitRise, shortFrames := 0, result := none, reply := [] } := by
  cases h : s.link.phase <;> simp [State.setCauses, State.fullReset, Link.start, LinkPhase.cut, h]

/-- The queue and the model's own counter are not the part's to reset. -/
theorem fullReset_queue : ((s.fullReset kinds).setCauses causes).choices = s.choices
    ∧ ((s.fullReset kinds).setCauses causes).pending = s.pending := by
  simp only [State.setCauses, State.fullReset, and_self]

/-- The records that a full reset gives their full-reset values, whatever the state (section 11.5). -/
theorem fullReset_records : let t := (s.fullReset kinds).setCauses causes
    (∀ i, t.chan i = { State.reset.chan i with input := (s.chan i).input })
    ∧ t.plans = State.reset.plans ∧ t.ramps = State.reset.ramps
    ∧ (∀ l, t.lane l = { State.reset.lane l with sense := (s.lane l).sense })
    ∧ t.lamp = { State.reset.lamp with lsup := s.lamp.lsup }
    ∧ t.faults = State.reset.faults ∧ t.sup = State.reset.sup ∧ t.locks = State.reset.locks :=
  ⟨fullReset_chan kinds causes s, fullReset_plans kinds causes s, fullReset_ramps kinds causes s,
    fullReset_lane kinds causes s, rfl, rfl, rfl, rfl⟩

end FullReset

/-! ## Events in a reset -/

theorem resetting_iff (s : State) : s.resetting = true ↔
    s.unit.inReset.power = true ∨ s.unit.inReset.pin = true ∨ s.unit.inReset.clock = true := by
  simp only [State.resetting, ResetKinds.any, Bool.or_eq_true, or_assoc]

/-- In a reset nothing but a reset, an event of the link, a request or a pin changes the part (R163). -/
theorem exec_in_reset {s : State} {e : Instr} (h : s.resetting = true) (hrequest : isRequest e = false)
    (he : e ∉ [.powerUpReset, .pinReset, .clockLossReset, .resetEnd, .frameBegin, .shortFrame])
    (hbad : ∀ op, e ≠ .badOpcode op) (hdet : ∀ c high, e ≠ .detectorInputChange c high)
    (hsense : ∀ l red amber green, e ≠ .lampSenseChange l red amber green)
    (hsupply : ∀ high, e ≠ .lampSupplyInputChange high) : exec e s = .next s := by
  unfold exec
  cases e with
  | commandRestart => simp [execCommandRestart, h]
  | powerUpReset | pinReset | clockLossReset | resetEnd | frameBegin | shortFrame => simp at he
  | badOpcode op => exact absurd rfl (hbad op)
  | detectorInputChange c high => exact absurd rfl (hdet c high)
  | lampSenseChange l red amber green => exact absurd rfl (hsense l red amber green)
  | lampSupplyInputChange high => exact absurd rfl (hsupply high)
  | actuation | qualifiedFallingEdge | acquisition | stuckOnExpiry | silenceExpiry | chatterWindowEnd | queueCorrection
  | emptyCorrection | intervalClose | overrideExpiry | suspensionExpiry | holdOffEnd | grant
  | provingClear | provingWindowEnd | startAmberExpiry | minRedExpiry | greenExpiry | amberExpiry | flushExpiry
  | senseSettleEnd | redSuspectOnset | redRecheck | conflictQualified | auxLampOut
  | supplyLoss | supplyReturn | stage1Onset | stage2Onset => exact event_resetting _ h
  | _ => exact nomatch hrequest

/-! ## The beginning and the end of a reset -/

section Begin
variable (s : State)

/-- A power-up joins the kinds in progress, and counts among the causes (R163, R164). -/
theorem exec_powerUpReset : let kinds := { s.unit.inReset with power := true }
    exec .powerUpReset s = .next ((s.fullReset kinds).setCauses kinds) := by
  show Host.Outcome.next (s.beginReset _) = _
  simp [State.beginReset, ResetKinds.union]

theorem exec_pinReset : let kinds := { s.unit.inReset with pin := true }
    exec .pinReset s = .next ((s.fullReset kinds).setCauses kinds) := by
  show Host.Outcome.next (s.beginReset _) = _
  simp [State.beginReset, ResetKinds.union]

theorem exec_clockLossReset : let kinds := { s.unit.inReset with clock := true }
    exec .clockLossReset s = .next ((s.fullReset kinds).setCauses kinds) := by
  show Host.Outcome.next (s.beginReset _) = _
  simp [State.beginReset, ResetKinds.union]

end Begin

/-- Settles O18. -/
theorem fullResetBeginsAndEnds : Obligations.FullResetBeginsAndEnds := by
  refine ⟨fun s c kinds hc => ⟨(s.fullReset kinds).setCauses kinds, ?_, ?_⟩,
    fun s e h => exec_in_reset h, fun s h => ?_, resetting_iff,
    fun s h => ⟨(s.fullReset .none).setCauses s.unit.inReset, ?_, ?_⟩⟩
  · obtain ⟨rfl, rfl⟩ | ⟨rfl, rfl⟩ | ⟨rfl, rfl⟩ := hc
    · exact exec_powerUpReset s
    · exact exec_pinReset s
    · exact exec_clockLossReset s
  · obtain ⟨hchan, hplans, hramps, hlane, hlamp, hfaults, hsup, hlocks⟩ := fullReset_records kinds kinds s
    exact ⟨hchan, hplans, hramps, hlane, hlamp, hfaults, hsup, hlocks, rfl, fullReset_link kinds kinds s, rfl,
      fullReset_queue kinds kinds s⟩
  · show execResetEnd s = _
    simp [execResetEnd, h]
  · show execResetEnd s = _
    simp [execResetEnd, h, State.endReset]
  · obtain ⟨hchan, hplans, hramps, hlane, hlamp, hfaults, hsup, hlocks⟩ := fullReset_records .none s.unit.inReset s
    exact ⟨hchan, hplans, hramps, hlane, hlamp, hfaults, hsup, hlocks, rfl, rfl,
      fullReset_link .none s.unit.inReset s, rfl, fullReset_queue .none s.unit.inReset s⟩

end Sys2Proof.Machine

/-! # The onset of stage 2: the ramps that run are stopped one after the other -/

namespace Sys2Proof.Machine

/-! ## The ramps stopped -/

/-- Ramp `r`, sent to STOPPING, has nothing left on the display, and so passes on to STANDBY (R67). -/
def State.clears (s : State) (r : Fin 4) : Bool := (s.enterStopping r).allOut r

/-- A ramp clears the display when the stop path of every member lane ends out of it (R123). -/
theorem clears_iff (s : State) (r : Fin 4) :
    s.clears r = true ↔ ∀ l, (s.lane l).ramp = some r → (s.lane l).stopPath.isOut = true := by
  rw [State.clears, allOut_iff, EveryLaneOut]
  refine forall_congr' fun l => ?_
  rw [enterStopping_lane]
  by_cases h : (s.lane l).ramp = some r <;> simp [h]

/-- The record that the stop leaves a METERING or SUSPENDED ramp (R66, R67). -/
def State.halted (s : State) (r : Fin 4) : Ramp :=
  if s.clears r then
    { s.ramp r with
      ctl := (s.ramp r).ctl.stopping.standing
      queue := { (s.ramp r).queue with stored := 0, spill := false, emptyTimer := 0, armed := false }
      sched := { (s.ramp r).sched with waiting := [], fresh := false } }
  else
    { s.ramp r with
      ctl := (s.ramp r).ctl.stopping
      queue := { (s.ramp r).queue with spill := false, emptyTimer := 0 }
      sched := { (s.ramp r).sched with waiting := [], fresh := false } }

/-- The stop of a METERING or SUSPENDED ramp, record by record (R66, R67, R123, R32, R40). -/
theorem stopRamp_parts {s : State} {r : Fin 4} (h : s.rampRuns r = true) :
    (∀ i, i ≠ r → (s.stopRamp r).ramp i = s.ramp i)
    ∧ (s.stopRamp r).ramp r = s.halted r
    ∧ (∀ l, (s.stopRamp r).lane l = if (s.lane l).ramp = some r then (s.lane l).stopPath else s.lane l)
    ∧ ∀ c, (s.stopRamp r).chan c =
        if (s.chan c).duty = .queue r ∧ s.clears r = true then { s.chan c with queueTimer := 0, served := false }
        else s.chan c := by
  obtain ⟨-, uother, uramp, ulane⟩ := enterStopping_entered s r
  have ustate : (s.enterStopping r).rampState r = .stopping := by rw [State.rampState, uramp]; rfl
  have uchan := enterStopping_chan s r
  rw [stopRamp_running h]
  cases hc : s.clears r with
  | true =>
    rw [standbyIfOut_out ustate ((allOut_iff _ _).1 hc)]
    obtain ⟨-, vother, vramp, vchan⟩ := enterStandby_stoodBy (s.enterStopping r) r
    refine ⟨fun i hi => (vother i hi).trans (uother i hi), ?_, fun l => ?_, fun c => ?_⟩
    · rw [vramp, uramp, State.halted, if_pos hc]
    · rw [enterStandby_lane, ulane]
    · rw [vchan, uchan]; simp
  | false =>
    rw [standbyIfOut_still (.inr (by rw [← allOut_iff]; simpa [State.clears] using hc))]
    refine ⟨uother, ?_, ulane, fun c => ?_⟩
    · rw [uramp, State.halted, if_neg (by simp [hc])]
    · rw [uchan]; simp

/-- The ramps in `done` that run in `s` have been stopped on the way to `t`, and no other ramp has. -/
structure Halted (s : State) (done : List (Fin 4)) (t : State) : Prop where
  frame : RecordsMove s t
  lane : ∀ l, t.lane l =
    if ∃ r ∈ done, (s.lane l).ramp = some r ∧ s.rampRuns r = true then (s.lane l).stopPath else s.lane l
  ramp : ∀ r, t.ramp r = if r ∈ done ∧ s.rampRuns r = true then s.halted r else s.ramp r
  chan : ∀ c, t.chan c =
    if ∃ r ∈ done, (s.chan c).duty = .queue r ∧ s.rampRuns r = true ∧ s.clears r = true then
      { s.chan c with queueTimer := 0, served := false }
    else s.chan c

namespace Halted
variable {s t : State} {done : List (Fin 4)} {r : Fin 4}

theorem refl (s : State) : Halted s [] s := ⟨rfl, by simp, by simp, by simp⟩

theorem binding (h : Halted s done t) (l : Fin 8) : (t.lane l).ramp = (s.lane l).ramp := by
  rw [h.lane]; split <;> simp

theorem duty (h : Halted s done t) (c : Fin 32) : (t.chan c).duty = (s.chan c).duty := by
  rw [h.chan]; split <;> rfl

/-- A lane bound to a ramp that has not been stopped stands. -/
theorem lane_other (h : Halted s done t) (hr : ¬ (r ∈ done ∧ s.rampRuns r = true)) {l : Fin 8}
    (hl : (s.lane l).ramp = some r) : t.lane l = s.lane l := by
  rw [h.lane, if_neg]
  rintro ⟨i, hi, hbound, hruns⟩
  obtain rfl : r = i := Option.some.inj (hl.symm.trans hbound)
  exact hr ⟨hi, hruns⟩

/-- A lane of a ramp that has been stopped has taken its stop path. -/
theorem lane_member (h : Halted s done t) (hr : r ∈ done) (hruns : s.rampRuns r = true) {l : Fin 8}
    (hl : (s.lane l).ramp = some r) : t.lane l = (s.lane l).stopPath := by
  rw [h.lane, if_pos ⟨r, hr, hl, hruns⟩]

/-- A stopped ramp is left with nothing on the display exactly when it cleared. -/
theorem everyLaneOut_iff (h : Halted s done t) (hr : r ∈ done) (hruns : s.rampRuns r = true) :
    EveryLaneOut t r ↔ s.clears r = true := by
  rw [clears_iff, EveryLaneOut]
  refine forall_congr' fun l => ?_
  rw [h.binding]
  exact imp_congr_right fun hl => by rw [h.lane_member hr hruns hl]

/-- One more ramp that does not run. -/
theorem step_still (h : Halted s done t) (hruns : s.rampRuns r = false) : Halted s (r :: done) t where
  frame := h.frame
  lane l := by rw [h.lane]; simp [hruns]
  ramp i := by
    rw [h.ramp]
    by_cases hi : i = r <;> simp [hi, hruns]
  chan c := by rw [h.chan]; simp [hruns]

section Running
variable (h : Halted s done t) (hr : r ∉ done) (hruns : s.rampRuns r = true)
include h hr hruns

/-- What the stop of one more ramp reads of the part is as it was at first: its own record, and the lanes bound to it. -/
theorem unstopped : t.ramp r = s.ramp r ∧ t.rampRuns r = true ∧ t.clears r = s.clears r := by
  have hnot : ¬ (r ∈ done ∧ s.rampRuns r = true) := fun hd => hr hd.1
  have hramp : t.ramp r = s.ramp r := by rw [h.ramp, if_neg hnot]
  refine ⟨hramp, by rwa [State.rampRuns, State.rampState, hramp], ?_⟩
  rw [Bool.eq_iff_iff, clears_iff, clears_iff]
  refine forall_congr' fun l => ?_
  rw [h.binding]
  exact imp_congr_right fun hl => by rw [h.lane_other hnot hl]

theorem stopRamp_ramp (i : Fin 4) :
    (t.stopRamp r).ramp i = if i ∈ r :: done ∧ s.rampRuns i = true then s.halted i else s.ramp i := by
  obtain ⟨hramp, htruns, hclears⟩ := h.unstopped hr hruns
  obtain ⟨hother, hself, -⟩ := stopRamp_parts htruns
  by_cases hi : i = r
  · subst hi
    rw [hself, if_pos ⟨List.mem_cons_self, hruns⟩, State.halted, State.halted, hclears, hramp]
  · rw [hother i hi, h.ramp]; simp [hi]

theorem stopRamp_lane (l : Fin 8) :
    (t.stopRamp r).lane l =
      if ∃ i ∈ r :: done, (s.lane l).ramp = some i ∧ s.rampRuns i = true then (s.lane l).stopPath else s.lane l := by
  obtain ⟨-, htruns, -⟩ := h.unstopped hr hruns
  obtain ⟨-, -, hlane, -⟩ := stopRamp_parts htruns
  rw [hlane, h.binding]
  by_cases hl : (s.lane l).ramp = some r
  · rw [if_pos hl, if_pos ⟨r, List.mem_cons_self, hl, hruns⟩, h.lane_other (fun hd => hr hd.1) hl]
  · rw [if_neg hl, h.lane]
    simp only [List.mem_cons, exists_eq_or_imp, hl, false_and, false_or]

theorem stopRamp_chan (c : Fin 32) :
    (t.stopRamp r).chan c =
      if ∃ i ∈ r :: done, (s.chan c).duty = .queue i ∧ s.rampRuns i = true ∧ s.clears i = true then
        { s.chan c with queueTimer := 0, served := false }
      else s.chan c := by
  obtain ⟨-, htruns, hclears⟩ := h.unstopped hr hruns
  obtain ⟨-, -, -, hchan⟩ := stopRamp_parts htruns
  rw [hchan, h.duty, hclears]
  by_cases hq : (s.chan c).duty = .queue r ∧ s.clears r = true
  · rw [if_pos hq, if_pos ⟨r, List.mem_cons_self, hq.1, hruns, hq.2⟩, h.chan]
    split <;> rfl
  · rw [if_neg hq, h.chan]
    simp only [List.mem_cons, exists_eq_or_imp, hruns, true_and, hq, false_or]

end Running

/-- One more ramp is stopped if it runs. -/
theorem step (h : Halted s done t) (hr : r ∉ done) : Halted s (r :: done) (t.stopRamp r) := by
  cases hruns : s.rampRuns r with
  | true =>
    exact ⟨h.frame.trans (stopRamp_recordsMove t r), h.stopRamp_lane hr hruns, h.stopRamp_ramp hr hruns,
      h.stopRamp_chan hr hruns⟩
  | false =>
    have hramp : t.ramp r = s.ramp r := by rw [h.ramp, if_neg (by simp [hruns])]
    rw [stopRamp_still (by rwa [State.rampRuns, State.rampState, hramp])]
    exact h.step_still hruns

end Halted

/-- Every ramp has been stopped if it runs. -/
theorem foldl_stopRamp_halted (s : State) : Halted s [3, 2, 1, 0] ((List.finRange 4).foldl State.stopRamp s) := by
  rw [show List.finRange 4 = [0, 1, 2, 3] by decide]
  simp only [List.foldl_cons, List.foldl_nil]
  exact ((((Halted.refl s).step (by decide)).step (by decide)).step (by decide)).step (by decide)

/-! ## The command -/

/-- The part with stage 2 and its report written, before the ramps are stopped (R160). -/
def State.stagedTwo (s : State) : State :=
  { s with
    sup := { s.sup with stage := .two, timer := (s.sup.t1 + s.sup.t2) * 10 }
    faults := s.faults.onset
      { kind := .hostLost, object := .part, index := 255, detail := 2, uptime := s.unit.uptime } }

theorem beginStage2_halted (s : State) : Halted s.stagedTwo [3, 2, 1, 0] s.beginStage2 := foldl_stopRamp_halted s.stagedTwo

theorem exec_stage2Onset {s : State} (hs : s.resetting = false) :
    exec .stage2Onset s =
      .next (if s.sup.enable = true ∧ s.sup.stage = .one then s.beginStage2 else s) := by
  show execStage2Onset s = _
  rw [execStage2Onset, event_running _ hs]
  simp only [Bool.and_eq_true, decide_eq_true_eq]

/-- Settles O16: the ramps are stopped one after the other, and no stop reads what another has written. -/
theorem stageTwoOnset : Obligations.StageTwoOnset := by
  have hall : ∀ r : Fin 4, r ∈ ([3, 2, 1, 0] : List (Fin 4)) := by decide
  refine ⟨fun s hs hon hstage => ?_, fun s h => ?_⟩
  · have h := beginStage2_halted s
    have hout {r : Fin 4} (hruns : s.rampRuns r = true) : EveryLaneOut s.beginStage2 r ↔ s.stagedTwo.clears r = true :=
      h.everyLaneOut_iff (hall r) hruns
    have hramp {r : Fin 4} (hruns : s.rampRuns r = true) : s.beginStage2.ramp r = s.stagedTwo.halted r := by
      rw [h.ramp, if_pos ⟨hall r, hruns⟩]
    refine ⟨s.beginStage2, by rw [exec_stage2Onset hs, if_pos ⟨hon, hstage⟩], h.frame, fun r hruns => ?_,
      fun r hruns => ⟨fun hclear => ?_, fun hlit => ?_⟩, fun l => ?_, fun c r hq hruns hclear => ?_, fun c hc => ?_⟩
    · rw [h.ramp, if_neg (fun hr => Bool.false_ne_true (hruns.symm.trans hr.2))]; rfl
    · rw [hramp hruns, State.halted, if_pos ((hout hruns).1 hclear)]; rfl
    · rw [hramp hruns, State.halted, if_neg (mt (hout hruns).2 hlit)]; rfl
    · rw [h.lane]
      refine if_congr ?_ rfl rfl
      rw [Option.any_eq_true]
      exact ⟨fun ⟨r, _, hbound, hruns⟩ => ⟨r, hbound, hruns⟩, fun ⟨r, hbound, hruns⟩ => ⟨r, hall r, hbound, hruns⟩⟩
    · rw [h.chan, if_pos ⟨r, hall r, hq, hruns, (hout hruns).1 hclear⟩]; rfl
    · rw [h.chan, if_neg]
      · rfl
      · rintro ⟨r, -, hq, hruns, hclear⟩
        obtain hstill | hlit := hc r hq
        · exact Bool.false_ne_true (hstill.symm.trans hruns)
        · exact hlit ((hout hruns).2 hclear)
  · cases hs : s.resetting with
    | true => exact event_resetting _ hs
    | false =>
      rw [exec_stage2Onset hs, if_neg]
      rintro ⟨hon, hstage⟩
      simp [hs, hon, hstage] at h

end Sys2Proof.Machine

/-! # The set-once locks: no command but SET LOCK and a full reset writes them -/

namespace Sys2Proof.Machine

/-! ## What leaves the locks -/

/-- Whatever state the outcome hands on, the locks stand in it. -/
def State.LeavesLocks (s : State) (o : Host.Outcome State Fault Refusal) : Prop := ∀ t, o = .next t → t.locks = s.locks

theorem registers_locks {s t : State} (h : t.registers = s.registers) : t.locks = s.locks := by
  obtain ⟨-, -, hlocks, -⟩ := registers_eq_iff.1 h
  exact hlocks

theorem RecordsMove.locks {s t : State} (h : RecordsMove s t) : t.locks = s.locks := registers_locks h.registers

theorem either_locks {p : Prop} [Decidable p] {s t u : State} (h : t.locks = s.locks) (g : u.locks = s.locks) :
    (if p then t else u).locks = s.locks := by split <;> [exact h; exact g]

theorem ite_locks {p : Prop} [Decidable p] {s t : State} (h : t.locks = s.locks) :
    (if p then t else s).locks = s.locks := either_locks h rfl

section Taken
variable {s : State}

theorem next_leavesLocks {t : State} (h : t.locks = s.locks) : s.LeavesLocks (.next t) := by
  rintro u ⟨⟩; exact h

theorem event_leavesLocks {f : State → State} (h : (f s).locks = s.locks) : s.LeavesLocks (event f s) :=
  next_leavesLocks (either_locks rfl h)

theorem missFrame_locks (s : State) : s.missFrame.locks = s.locks := by rw [missFrame_eq]

theorem request_leavesLocks {armed : Bool} {serve : State → Served} (h : (serve s).state.locks = s.locks) :
    s.LeavesLocks (request armed serve s) := next_leavesLocks (either_locks h (missFrame_locks s))

/-- A request that leaves the four registers leaves the locks. -/
theorem request_sparesLocks {armed : Bool} {serve : State → Served} (h : (serve s).state.registers = s.registers) :
    s.LeavesLocks (request armed serve s) := request_leavesLocks (registers_locks h)

end Taken

/-! ## The link, supervision and the command restart -/

theorem riseOfCs_locks (s : State) : s.riseOfCs.locks = s.locks := by
  unfold State.riseOfCs
  repeat' split
  all_goals rfl

theorem fallOfCs_locks (s : State) : s.fallOfCs.locks = s.locks :=
  either_locks (show (if s.link.phase = .idle then s else s.riseOfCs).locks = s.locks from
    either_locks rfl (riseOfCs_locks s)) (missFrame_locks s)

theorem serveKeepalive_locks (token : Byte) (s : State) : (serveKeepalive token s).state.locks = s.locks := by
  unfold serveKeepalive
  split <;> [rfl; skip]
  split <;> rfl

theorem serveSupervisionSet_locks (enable t1 : Byte) (t2 : Half) (s : State) :
    (serveSupervisionSet enable t1 t2 s).state.locks = s.locks := by
  unfold serveSupervisionSet
  split <;> [rfl; skip]
  split <;> rfl

theorem serveRestart_locks (s : State) : (serveRestart s).state.locks = s.locks := by
  unfold serveRestart
  split <;> [rfl; skip]
  split <;> rfl

theorem commandRestart_locks (s : State) : s.commandRestart.locks = s.locks := by rw [commandRestart_eq]

theorem beginStage2_locks (s : State) : s.beginStage2.locks = s.locks :=
  (beginStage2_halted s).frame.locks

/-! ## Channels and ramps -/

theorem hearChannel_locks (s : State) (b : Option (Fin 4)) : (s.hearChannel b).locks = s.locks := by
  rw [hearChannel_frame]

theorem refreshServed_locks (s : State) (c : Fin 32) : (s.refreshServed c).locks = s.locks := by
  rw [refreshServed_frame]

theorem failChannel_locks (s : State) (c : Fin 32) (kind : ChannelFault) : (s.failChannel c kind).locks = s.locks :=
  hearChannel_locks _ _

theorem actuate_locks (s : State) (c : Fin 32) : (s.actuate c).locks = s.locks := by
  have hactuated : (s.actuated c).locks = s.locks := by rw [actuated_frame]
  rw [actuate_eq]
  exact either_locks ((failChannel_locks _ c _).trans hactuated) hactuated

theorem queueCorrection_leavesLocks (s : State) (c : Fin 32) : s.LeavesLocks (execQueueCorrection c s) := by
  refine event_leavesLocks ?_
  cases (s.chan c).duty with
  | queue r => exact ite_locks rfl
  | unused | mainline | entry | demand | passage => rfl

theorem stopRamp_locks (s : State) (r : Fin 4) : (s.stopRamp r).locks = s.locks := (stopRamp_recordsMove s r).locks

theorem closeMeasured_locks (s : State) (r : Fin 4) : (s.closeMeasured r).locks = s.locks := by
  have hlatched : (s.afterLatch r).locks = s.locks := by simp [State.afterLatch, State.latchChannels]
  have hstation (t : State) : (t.formStation r).locks = t.locks := either_locks rfl rfl
  have hpending (t : State) : (t.applyPending r).locks = t.locks := by rw [applyPending_eq]
  have hmeter (t : State) : (t.meterClose r).locks = t.locks := by
    unfold State.meterClose
    split <;> [exact either_locks rfl rfl; rfl]
  rw [closeMeasured_afterLatch, hmeter, hpending, hstation, hlatched]

theorem activate_locks (s : State) (r : Fin 4) : (s.activate r).locks = s.locks := by
  have hstart : (s.startRamp r).locks = s.locks := registers_locks (startRamp_registers s r)
  unfold State.activate
  split <;> [split; rfl]
  · exact either_locks (either_locks hstart rfl) rfl
  · exact either_locks (stopRamp_locks s r) rfl
  · rfl

theorem closeInterval_locks (s : State) (r : Fin 4) : (s.closeInterval r).locks = s.locks := by
  rw [closeInterval_eq, activate_locks, closeMeasured_locks]

theorem grant_leavesLocks (s : State) (r : Fin 4) : s.LeavesLocks (execGrant r s) := by
  refine event_leavesLocks ?_
  split <;> [rfl; refine ite_locks ?_]
  rw [grantLane_eq]; rfl

/-! ## Lanes and the Lamp Monitor -/

theorem rewriteLane_locks (s : State) (l : Fin 8) (x : Lane) : (s.rewriteLane l x).locks = s.locks :=
  (rewriteLane_recordsMove s l x).locks

theorem moveLane_locks (s : State) (l : Fin 8) (source : LaneState) (next : Lane → LaneState) :
    (s.moveLane l source next).locks = s.locks := ite_locks (rewriteLane_locks s l _)

theorem lockLane_locks (s : State) (l : Fin 8) (cause : LockCause) : (s.lockLane l cause).locks = s.locks :=
  rewriteLane_locks s l _

theorem redSuspectOnset_leavesLocks (s : State) (l : Fin 8) : s.LeavesLocks (execRedSuspectOnset l s) := by
  refine event_leavesLocks (ite_locks ?_)
  split <;> rfl

theorem endSuspicion_locks (s : State) (l : Fin 8) : (s.endSuspicion l).locks = s.locks := by
  unfold State.endSuspicion
  split <;> rfl

theorem failRecheck_locks_eq (s : State) (l : Fin 8) : (s.failRecheck l).locks = s.locks :=
  either_locks rfl (lockLane_locks _ l _)

theorem redRecheck_leavesLocks (s : State) (l : Fin 8) : s.LeavesLocks (execRedRecheck l s) :=
  event_leavesLocks (either_locks rfl (either_locks rfl (either_locks (endSuspicion_locks s l) (failRecheck_locks_eq s l))))

theorem conflictQualified_leavesLocks (s : State) (l : Fin 8) : s.LeavesLocks (execConflictQualified l s) := by
  refine event_leavesLocks ?_
  split <;> [skip; rfl]
  next r detail _ _ =>
  have hmoved : (s.conflicted l r detail).locks = s.locks := (conflicted_recordsMove s l r detail).locks
  rw [qualifyConflict_eq, (refreshRamp_recordsMove _ r).locks, stopRamp_locks, hmoved]

theorem loseSupply_locks (s : State) : s.loseSupply.locks = s.locks := by
  have hheard (t : State) (r : Fin 4) : (t.refreshRamp r).locks = t.locks := (refreshRamp_recordsMove t r).locks
  rw [loseSupply_eq, refreshAll_eq, hheard, hheard, hheard, hheard]
  simp [State.supplyLost]

theorem supplyInput_locks (s : State) (high : Bool) : (s.supplyInput high).locks = s.locks := by
  refine either_locks rfl ?_
  cases high <;> rfl

/-! ## Every command -/

/-- Each command by its own arm: SET LOCK and the full resets apart, none writes a lock. -/
theorem exec_leavesLocks {i : Instr} (s : State) (hlock : ∀ kind, i ≠ .setLock kind)
    (hreset : i ∉ [.powerUpReset, .pinReset, .clockLossReset, .resetEnd]) : s.LeavesLocks (exec i s) := by
  unfold exec
  cases i with
  | setLock kind => exact absurd rfl (hlock kind)
  | powerUpReset | pinReset | clockLossReset | resetEnd => simp at hreset
  | readCaps | readStatus | faultRead | faultClear | alertMask | clearCauses | restartArm =>
    exact request_leavesLocks rfl
  | keepalive token => exact request_leavesLocks (serveKeepalive_locks token s)
  | supervisionSet => exact request_leavesLocks (serveSupervisionSet_locks _ _ _ s)
  | restart => exact request_leavesLocks (serveRestart_locks s)
  | lampSettings => exact request_sparesLocks (serveLampSettings_registers _ _ s)
  | badOpcode opcode =>
    show s.LeavesLocks (if _ then _ else _)
    split <;> [exact fun _ h => nomatch h; exact request_leavesLocks rfl]
  | commandRestart => exact next_leavesLocks (ite_locks (commandRestart_locks s))
  | frameBegin => exact next_leavesLocks (fallOfCs_locks s)
  | shortFrame => exact next_leavesLocks (riseOfCs_locks s)
  | detectorConfigure =>
    exact request_sparesLocks (withChannel_registers fun c => serveDetectorConfigure_registers _ _ _ c s)
  | detectorPark => exact request_sparesLocks (withChannel_registers fun c => serveDetectorPark_registers c s)
  | detectorUnpark => exact request_sparesLocks (withChannel_registers fun c => serveDetectorUnpark_registers c s)
  | detectorRestore => exact request_sparesLocks (withChannel_registers fun c => serveDetectorRestore_registers c s)
  | detectorRead => exact request_sparesLocks (withChannel_registers fun _ => rfl)
  | planWrite => exact request_sparesLocks (withPlan_registers fun p => servePlanWrite_registers _ p s)
  | planRetire => exact request_sparesLocks (withPlan_registers fun p => servePlanRetire_registers p s)
  | planRead => exact request_sparesLocks (withPlan_registers fun _ => rfl)
  | rampConfigure => exact request_sparesLocks (withRamp_registers fun r => serveRampConfigure_registers _ r s)
  | rampPlan => exact request_sparesLocks (withRamp_registers fun r => serveRampPlan_registers _ r s)
  | rampMode => exact request_sparesLocks (withRamp_registers fun r => serveRampMode_registers _ r s)
  | rampClose => exact request_sparesLocks (withRamp_registers fun r => serveRampClose_registers r s)
  | rampStart => exact request_sparesLocks (withRamp_registers fun r => serveRampStart_registers r s)
  | rampStop => exact request_sparesLocks (withRamp_registers fun r => serveRampStop_registers r s)
  | rampSuspend => exact request_sparesLocks (withRamp_registers fun r => serveRampSuspend_registers _ r s)
  | rampResume => exact request_sparesLocks (withRamp_registers fun r => serveRampResume_registers r s)
  | rampOverride => exact request_sparesLocks (withRamp_registers fun r => serveRampOverride_registers _ _ r s)
  | rampOverrideCancel | rampRead => exact request_sparesLocks (withRamp_registers fun _ => rfl)
  | laneConfigure => exact request_sparesLocks (withLane_registers fun l => serveLaneConfigure_registers _ _ l s)
  | laneEnable => exact request_sparesLocks (withLane_registers fun l => serveLaneEnable_registers l s)
  | laneDisable => exact request_sparesLocks (withLane_registers fun l => (rewriteLane_recordsMove s l _).registers)
  | laneRestore => exact request_sparesLocks (withLane_registers fun l => serveLaneRestore_registers l s)
  | laneRead => exact request_sparesLocks (withLane_registers fun _ => rfl)
  | actuation c => exact event_leavesLocks (ite_locks (actuate_locks s c))
  | qualifiedFallingEdge c | acquisition c => exact event_leavesLocks (ite_locks (refreshServed_locks _ c))
  | stuckOnExpiry c | silenceExpiry c => exact event_leavesLocks (ite_locks (failChannel_locks _ c _))
  | queueCorrection c => exact queueCorrection_leavesLocks s c
  | chatterWindowEnd | emptyCorrection | holdOffEnd => exact event_leavesLocks (ite_locks rfl)
  | overrideExpiry | senseSettleEnd => exact event_leavesLocks rfl
  | intervalClose r => exact event_leavesLocks (either_locks rfl (closeInterval_locks s r))
  | suspensionExpiry r => exact event_leavesLocks (ite_locks (registers_locks (resumeRamp_registers s r)))
  | grant r => exact grant_leavesLocks s r
  | provingClear l => exact event_leavesLocks (ite_locks (moveLane_locks s l _ _))
  | startAmberExpiry l | minRedExpiry l | greenExpiry l | amberExpiry l | flushExpiry l =>
    exact event_leavesLocks (moveLane_locks s l _ _)
  | provingWindowEnd l => exact event_leavesLocks (ite_locks (lockLane_locks _ l _))
  | redSuspectOnset l => exact redSuspectOnset_leavesLocks s l
  | redRecheck l => exact redRecheck_leavesLocks s l
  | conflictQualified l => exact conflictQualified_leavesLocks s l
  | auxLampOut => exact event_leavesLocks (ite_locks rfl)
  | supplyLoss => exact event_leavesLocks (ite_locks (loseSupply_locks s))
  | supplyReturn => exact event_leavesLocks (either_locks rfl rfl)
  | stage1Onset => exact event_leavesLocks (ite_locks rfl)
  | stage2Onset => exact event_leavesLocks (ite_locks (beginStage2_locks s))
  | detectorInputChange | lampSenseChange => exact next_leavesLocks rfl
  | lampSupplyInputChange high => exact next_leavesLocks (supplyInput_locks s high)

/-! ## SET LOCK -/

section SetLock
variable {s : State}

theorem serveSetLock_supervision (h : s.locks.supervision = true ∨ s.sup.enable = true) :
    serveSetLock 1 s = accept { s with locks := { s.locks with supervision := true } } := by
  show (if s.locks.supervision = true then _ else _) = _
  by_cases hl : s.locks.supervision = true
  · have hsame : s = { s with locks := { s.locks with supervision := true } } := by rw [← hl]
    rw [if_pos hl, ← hsame]
  · rw [if_neg hl, if_pos (h.resolve_left hl)]

theorem serveSetLock_wrongState (hl : s.locks.supervision = false) (hoff : s.sup.enable = false) :
    serveSetLock 1 s = refuse s .wrongState := by
  simp [serveSetLock, hl, hoff]

theorem serveSetLock_timing (s : State) :
    serveSetLock 2 s = accept { s with locks := { s.locks with timing := true } } := rfl

theorem serveSetLock_badValue {kind : Byte} (h1 : kind ≠ 1) (h2 : kind ≠ 2) : serveSetLock kind s = refuse s .badValue := by
  unfold serveSetLock
  split
  · next h => exact absurd (BitVec.eq_of_toNat_eq h) h1
  · next h => exact absurd (BitVec.eq_of_toNat_eq h) h2
  · rfl

/-- SET LOCK clears no lock (R162). -/
theorem serveSetLock_holds (kind : Byte) (s : State) :
    (s.locks.supervision = true → (serveSetLock kind s).state.locks.supervision = true)
    ∧ (s.locks.timing = true → (serveSetLock kind s).state.locks.timing = true) := by
  unfold serveSetLock
  split
  · split <;> [exact ⟨id, id⟩; skip]
    split <;> [exact ⟨fun _ => rfl, id⟩; exact ⟨id, id⟩]
  · exact ⟨id, fun _ => rfl⟩
  · exact ⟨id, id⟩

/-- Heard or not, what SET LOCK leaves of the locks is what its service leaves, or the locks as they were. -/
theorem exec_setLock_locks {kind : Byte} {t : State} (h : exec (.setLock kind) s = .next t) :
    t.locks = (serveSetLock kind s).state.locks ∨ t.locks = s.locks := by
  obtain rfl := Host.Outcome.next.inj h
  split <;> [exact .inl rfl; exact .inr (missFrame_locks s)]

end SetLock

/-- Settles O14. -/
theorem setOnceLocks : Obligations.SetOnceLocks := by
  refine ⟨fun s kind hs => ?_, fun c s t h hpower hpin hclock hend => ?_⟩
  · have hexec : exec (.setLock kind) s = .next ((serveSetLock kind s).state.answered (serveSetLock kind s).result
        (serveSetLock kind s).reply) := request_answered (serveSetLock kind) hs
    rw [hexec]
    refine ⟨?_, ?_, ?_, fun h1 h2 => by rw [serveSetLock_badValue h1 h2]; rfl⟩
    · rintro rfl h
      rw [serveSetLock_supervision h]; rfl
    · rintro rfl hl hoff
      rw [serveSetLock_wrongState hl hoff]; rfl
    · rintro rfl
      rw [serveSetLock_timing]; rfl
  · by_cases hset : ∃ kind, c = .setLock kind
    · obtain ⟨kind, rfl⟩ := hset
      obtain ht | ht := exec_setLock_locks h <;> rw [ht]
      · exact serveSetLock_holds kind s
      · exact ⟨id, id⟩
    · have hlocks := exec_leavesLocks s (fun kind hk => hset ⟨kind, hk⟩) (by simp [hpower, hpin, hclock, hend]) t h
      rw [hlocks]
      exact ⟨id, id⟩

end Sys2Proof.Machine

/-! # The frames of the command link, byte by byte (section 12.5) -/

namespace Sys2Proof

/-! ## A whole frame -/

theorem decodePlan_append (p : PlanOperands) (more : List Byte) : decodePlan (encodePlan p ++ more) = some p := by
  simp [encodePlan, halfBytes, decodePlan, halfOf_bytes]

/-- BAD_OPCODE is a command exactly with an opcode outside the table (R170). -/
theorem badOpcode_wellFormed {opcode : Byte} :
    (Instr.badOpcode opcode).wellFormed = true ↔ ¬ knownOpcodes.contains opcode = true := by
  simp [Instr.wellFormed]

/-- The bytes of a request are read as that request, whatever follows them: the two bytes of an operand give it back. -/
theorem decodeFrame_append {c : Instr} {bytes : List Byte} (hw : c.wellFormed = true) (h : encodeFrame c = some bytes)
    (more : List Byte) : decodeFrame (bytes ++ more) = some c := by
  cases c with
  | badOpcode =>
    cases h
    exact if_neg (badOpcode_wellFormed.1 hw)
  | planWrite plan fields =>
    cases h
    exact congrArg (Option.map (Instr.planWrite plan)) (decodePlan_append fields more)
  | supervisionSet enable t1 t2 =>
    cases h
    exact congrArg (some ∘ Instr.supervisionSet enable t1) (halfOf_bytes t2)
  | rampConfigure ramp interval capacity queuePos emptyCheck queueCheck holdOff =>
    cases h
    exact congrArg (some ∘ Instr.rampConfigure ramp interval capacity queuePos emptyCheck queueCheck)
      (halfOf_bytes holdOff)
  | rampOverride ramp rate minutes =>
    cases h
    exact congrArg (fun w => some (Instr.rampOverride ramp w minutes)) (halfOf_bytes rate)
  | laneConfigure lane ramp green amber minRed startAmber flush =>
    cases h
    exact congrArg₂ (fun v w => some (Instr.laneConfigure lane ramp green amber v startAmber w)) (halfOf_bytes minRed)
      (halfOf_bytes flush)
  | faultClear mask =>
    cases h
    exact congrArg (some ∘ Instr.faultClear) (halfOf_bytes mask)
  | alertMask mask =>
    cases h
    exact congrArg (some ∘ Instr.alertMask) (halfOf_bytes mask)
  | _ => cases h <;> rfl

/-! ## A frame that lacks bytes -/

theorem decodePlan_take (p : PlanOperands) {n : Nat} (hn : n < 24) : decodePlan ((encodePlan p).take n) = none := by
  interval_cases n <;> rfl

/-- No shorter run of the bytes of a request is a request: the opcode is there or nothing is, and an operand byte is
missing. -/
theorem decodeFrame_take {c : Instr} {bytes : List Byte} (h : encodeFrame c = some bytes) {n : Nat}
    (hn : n < bytes.length) : decodeFrame (bytes.take n) = none := by
  cases c with
  | planWrite plan fields =>
    cases h
    match n, hn with
    | 0, _ | 1, _ => rfl
    | n + 2, hn =>
      have hfields : n < 24 := Nat.lt_of_add_lt_add_right (n := 2) hn
      exact congrArg (Option.map (Instr.planWrite plan)) (decodePlan_take fields hfields)
  | _ =>
    cases h <;> (
      simp only [halfBytes, List.length_append, List.length_cons, List.length_nil, Nat.reduceAdd] at hn
      interval_cases n <;> rfl)

/-- Settles O4: the whole frame, and a frame that lacks bytes. -/
theorem frameBytesReadBack : Obligations.FrameBytesReadBack :=
  fun _ _ hw h => ⟨decodeFrame_append hw h, fun _ => decodeFrame_take h⟩

end Sys2Proof

/-! # A refused request, one step, the replies of READ CAPS and READ STATUS, and the edges of CS_N -/

namespace Sys2Proof.Machine

/-! ## A refused request changes nothing -/

/-- What a request leaves unless it is taken, with OK or CLAMPED, is the state it found. -/
def Served.TakenOrSame (s : State) (v : Served) : Prop := v.result = .ok ∨ v.result = .clamped ∨ v.state = s

section Service
variable {s : State} {b : Byte}

theorem refuse_takenOrSame (result : Result) (reply : List Byte := []) : (refuse s result reply).TakenOrSame s :=
  .inr (.inr rfl)

theorem accept_takenOrSame (t : State) (reply : List Byte := []) : (accept t reply).TakenOrSame s := .inl rfl

theorem clampedIf_taken (changed : Bool) : clampedIf changed = .ok ∨ clampedIf changed = .clamped := by
  cases changed <;> [exact .inl rfl; exact .inr rfl]

theorem acceptClamped_takenOrSame (t : State) (changed : Bool) : (acceptClamped t changed).TakenOrSame s :=
  (clampedIf_taken changed).imp_right .inl

theorem ite_takenOrSame {p : Prop} [Decidable p] {v w : Served} (hv : v.TakenOrSame s) (hw : w.TakenOrSame s) :
    (if p then v else w).TakenOrSame s := by split <;> [exact hv; exact hw]

theorem withChannel_takenOrSame {serve : Fin 32 → State → Served} (h : ∀ c, (serve c s).TakenOrSame s) :
    (withChannel b serve s).TakenOrSame s := by
  unfold withChannel; split <;> [exact refuse_takenOrSame _; exact h _]

theorem withPlan_takenOrSame {serve : Fin 16 → State → Served} (h : ∀ p, (serve p s).TakenOrSame s) :
    (withPlan b serve s).TakenOrSame s := by
  unfold withPlan; split <;> [exact refuse_takenOrSame _; exact h _]

theorem withRamp_takenOrSame {serve : Fin 4 → State → Served} (h : ∀ r, (serve r s).TakenOrSame s) :
    (withRamp b serve s).TakenOrSame s := by
  unfold withRamp; split <;> [exact refuse_takenOrSame _; exact h _]

theorem withLane_takenOrSame {serve : Fin 8 → State → Served} (h : ∀ l, (serve l s).TakenOrSame s) :
    (withLane b serve s).TakenOrSame s := by
  unfold withLane; split <;> [exact refuse_takenOrSame _; exact h _]

end Service

/-! ### The link, supervision and the lamp settings -/

section Serve
variable (s : State)

theorem serveKeepalive_takenOrSame (token : Byte) : (serveKeepalive token s).TakenOrSame s :=
  ite_takenOrSame (accept_takenOrSame _ _) (ite_takenOrSame (accept_takenOrSame _ _) (refuse_takenOrSame _ _))

theorem serveSupervisionSet_takenOrSame (enable t1 : Byte) (t2 : Half) :
    (serveSupervisionSet enable t1 t2 s).TakenOrSame s :=
  ite_takenOrSame (refuse_takenOrSame _) (ite_takenOrSame (refuse_takenOrSame _) (acceptClamped_takenOrSame _ _))

theorem serveSetLock_takenOrSame (kind : Byte) : (serveSetLock kind s).TakenOrSame s := by
  unfold serveSetLock; split
  · exact ite_takenOrSame (accept_takenOrSame _) (ite_takenOrSame (accept_takenOrSame _) (refuse_takenOrSame _))
  · exact accept_takenOrSame _
  · exact refuse_takenOrSame _

theorem serveRestart_takenOrSame : (serveRestart s).TakenOrSame s :=
  ite_takenOrSame (refuse_takenOrSame _) (ite_takenOrSame (refuse_takenOrSame _) (accept_takenOrSame _))

theorem serveLampSettings_takenOrSame (qualify recheckN : Nat) : (serveLampSettings qualify recheckN s).TakenOrSame s :=
  ite_takenOrSame (refuse_takenOrSame _ _) ((clampedIf_taken _).imp_right .inl)

/-! ### Channels and plans -/

theorem serveDetectorConfigure_takenOrSame (role binding : Byte) (t : ChannelTimings) (c : Fin 32) :
    (serveDetectorConfigure role binding t c s).TakenOrSame s := by
  refine ite_takenOrSame (refuse_takenOrSame _) ?_
  split
  · exact refuse_takenOrSame _
  · exact ite_takenOrSame (refuse_takenOrSame _) (acceptClamped_takenOrSame _ _)

theorem serveDetectorPark_takenOrSame (c : Fin 32) : (serveDetectorPark c s).TakenOrSame s := by
  unfold serveDetectorPark; split
  case h_1 => exact refuse_takenOrSame _
  all_goals exact accept_takenOrSame _

theorem serveDetectorUnpark_takenOrSame (c : Fin 32) : (serveDetectorUnpark c s).TakenOrSame s := by
  unfold serveDetectorUnpark; split
  case h_4 => exact accept_takenOrSame _
  all_goals exact refuse_takenOrSame _

theorem serveDetectorRestore_takenOrSame (c : Fin 32) : (serveDetectorRestore c s).TakenOrSame s := by
  unfold serveDetectorRestore; split
  case h_4 => exact accept_takenOrSame _
  all_goals exact refuse_takenOrSame _

theorem servePlanWrite_takenOrSame (sent : PlanFields) (p : Fin 16) : (servePlanWrite sent p s).TakenOrSame s :=
  ite_takenOrSame (acceptClamped_takenOrSame _ _) (refuse_takenOrSame _)

theorem servePlanRetire_takenOrSame (p : Fin 16) : (servePlanRetire p s).TakenOrSame s :=
  ite_takenOrSame (accept_takenOrSame _) (refuse_takenOrSame _)

/-! ### Ramps -/

theorem serveRampConfigure_takenOrSame (p : RampSettings) (r : Fin 4) : (serveRampConfigure p r s).TakenOrSame s := by
  unfold serveRampConfigure; split
  case h_1 | h_2 => exact acceptClamped_takenOrSame _ _
  all_goals exact refuse_takenOrSame _

theorem serveRampClose_takenOrSame (r : Fin 4) : (serveRampClose r s).TakenOrSame s :=
  ite_takenOrSame (refuse_takenOrSame _) (ite_takenOrSame (refuse_takenOrSame _) (accept_takenOrSame _))

theorem serveRampPlan_takenOrSame (plan : Byte) (r : Fin 4) : (serveRampPlan plan r s).TakenOrSame s := by
  unfold serveRampPlan; split
  · exact refuse_takenOrSame _
  · exact ite_takenOrSame (refuse_takenOrSame _) (ite_takenOrSame (refuse_takenOrSame _) (accept_takenOrSame _))

theorem serveRampMode_takenOrSame (mode : Byte) (r : Fin 4) : (serveRampMode mode r s).TakenOrSame s := by
  refine ite_takenOrSame (refuse_takenOrSame _) ?_
  split <;> [exact refuse_takenOrSame _; exact accept_takenOrSame _]

theorem serveRampStart_takenOrSame (r : Fin 4) : (serveRampStart r s).TakenOrSame s := by
  refine ite_takenOrSame (refuse_takenOrSame _) ?_
  split <;> [exact refuse_takenOrSame _; exact accept_takenOrSame _]

theorem serveRampStop_takenOrSame (r : Fin 4) : (serveRampStop r s).TakenOrSame s :=
  ite_takenOrSame (refuse_takenOrSame _) (accept_takenOrSame _)

theorem serveRampOverride_takenOrSame (rate minutes : Nat) (r : Fin 4) :
    (serveRampOverride rate minutes r s).TakenOrSame s :=
  ite_takenOrSame (refuse_takenOrSame _) (ite_takenOrSame (refuse_takenOrSame _) (acceptClamped_takenOrSame _ _))

theorem serveRampSuspend_takenOrSame (minutes : Nat) (r : Fin 4) : (serveRampSuspend minutes r s).TakenOrSame s :=
  ite_takenOrSame (refuse_takenOrSame _) (ite_takenOrSame (refuse_takenOrSame _)
    (ite_takenOrSame (refuse_takenOrSame _) (acceptClamped_takenOrSame _ _)))

theorem serveRampResume_takenOrSame (r : Fin 4) : (serveRampResume r s).TakenOrSame s :=
  ite_takenOrSame (accept_takenOrSame _) (refuse_takenOrSame _)

/-! ### Lanes -/

theorem serveLaneConfigure_takenOrSame (ramp : Byte) (t : LaneTimings) (l : Fin 8) :
    (serveLaneConfigure ramp t l s).TakenOrSame s := by
  unfold serveLaneConfigure; split
  · exact refuse_takenOrSame _
  refine ite_takenOrSame (refuse_takenOrSame _) ?_
  split
  · exact refuse_takenOrSame _
  · exact ite_takenOrSame (refuse_takenOrSame _)
      (ite_takenOrSame (refuse_takenOrSame _) (acceptClamped_takenOrSame _ _))

theorem serveLaneEnable_takenOrSame (l : Fin 8) : (serveLaneEnable l s).TakenOrSame s := by
  unfold serveLaneEnable; split
  · exact refuse_takenOrSame _
  · exact ite_takenOrSame (refuse_takenOrSame _) (ite_takenOrSame (refuse_takenOrSame _)
      (ite_takenOrSame (accept_takenOrSame _) (accept_takenOrSame _)))

theorem serveLaneRestore_takenOrSame (l : Fin 8) : (serveLaneRestore l s).TakenOrSame s :=
  ite_takenOrSame (accept_takenOrSame _) (refuse_takenOrSame _)

end Serve

/-! ### Every request -/

/-- The outcome is that of a frame which `serve` answers; what `serve` refuses it leaves as it was, and a frame that
arms is taken (R165, R171). -/
structure State.ServedBy (s : State) (o : Host.Outcome State Fault Refusal) (armed : Bool) (serve : State → Served) :
    Prop where
  asRequest : o = request armed serve s
  spares : (serve s).TakenOrSame s
  arms : armed = true → (serve s).result = .ok

/-- The outcome is that of a frame which some service answers. -/
def State.ServesIn (s : State) (o : Host.Outcome State Fault Refusal) : Prop :=
  ∃ armed serve, s.ServedBy o armed serve

/-- A frame that leaves the arming mark clear. -/
theorem request_servesIn {s : State} {serve : State → Served} (h : (serve s).TakenOrSame s) :
    s.ServesIn (request false serve s) := ⟨false, serve, rfl, h, nofun⟩

/-- Each request by its own service. -/
theorem exec_servesIn {c : Instr} (s : State) (hc : isRequest c = true) (hw : c.wellFormed = true) :
    s.ServesIn (exec c s) := by
  unfold exec
  cases c with
  | restartArm => exact ⟨true, accept, rfl, accept_takenOrSame s, fun _ => rfl⟩
  | badOpcode => exact ⟨false, _, if_neg (badOpcode_wellFormed.1 hw), refuse_takenOrSame _, nofun⟩
  | readCaps | readStatus | clearCauses | faultRead | faultClear | alertMask =>
    exact request_servesIn (accept_takenOrSame _ _)
  | keepalive => exact request_servesIn (serveKeepalive_takenOrSame s _)
  | supervisionSet => exact request_servesIn (serveSupervisionSet_takenOrSame s _ _ _)
  | setLock => exact request_servesIn (serveSetLock_takenOrSame s _)
  | restart => exact request_servesIn (serveRestart_takenOrSame s)
  | lampSettings => exact request_servesIn (serveLampSettings_takenOrSame s _ _)
  | detectorConfigure => exact request_servesIn (withChannel_takenOrSame (serveDetectorConfigure_takenOrSame s _ _ _))
  | detectorRead => exact request_servesIn (withChannel_takenOrSame fun _ => accept_takenOrSame _ _)
  | detectorPark => exact request_servesIn (withChannel_takenOrSame (serveDetectorPark_takenOrSame s))
  | detectorUnpark => exact request_servesIn (withChannel_takenOrSame (serveDetectorUnpark_takenOrSame s))
  | detectorRestore => exact request_servesIn (withChannel_takenOrSame (serveDetectorRestore_takenOrSame s))
  | planWrite => exact request_servesIn (withPlan_takenOrSame (servePlanWrite_takenOrSame s _))
  | planRead => exact request_servesIn (withPlan_takenOrSame fun _ => accept_takenOrSame _ _)
  | planRetire => exact request_servesIn (withPlan_takenOrSame (servePlanRetire_takenOrSame s))
  | rampConfigure => exact request_servesIn (withRamp_takenOrSame (serveRampConfigure_takenOrSame s _))
  | rampRead | rampOverrideCancel => exact request_servesIn (withRamp_takenOrSame fun _ => accept_takenOrSame _ _)
  | rampPlan => exact request_servesIn (withRamp_takenOrSame (serveRampPlan_takenOrSame s _))
  | rampStart => exact request_servesIn (withRamp_takenOrSame (serveRampStart_takenOrSame s))
  | rampStop => exact request_servesIn (withRamp_takenOrSame (serveRampStop_takenOrSame s))
  | rampSuspend => exact request_servesIn (withRamp_takenOrSame (serveRampSuspend_takenOrSame s _))
  | rampResume => exact request_servesIn (withRamp_takenOrSame (serveRampResume_takenOrSame s))
  | rampOverride => exact request_servesIn (withRamp_takenOrSame (serveRampOverride_takenOrSame s _ _))
  | rampClose => exact request_servesIn (withRamp_takenOrSame (serveRampClose_takenOrSame s))
  | rampMode => exact request_servesIn (withRamp_takenOrSame (serveRampMode_takenOrSame s _))
  | laneConfigure => exact request_servesIn (withLane_takenOrSame (serveLaneConfigure_takenOrSame s _ _))
  | laneRead | laneDisable => exact request_servesIn (withLane_takenOrSame fun _ => accept_takenOrSame _ _)
  | laneEnable => exact request_servesIn (withLane_takenOrSame (serveLaneEnable_takenOrSame s))
  | laneRestore => exact request_servesIn (withLane_takenOrSame (serveLaneRestore_takenOrSame s))
  | _ => nomatch hc

/-- A term that is no command of the part has no outcome to hand on (notes/assumptions/16.md). -/
theorem wellFormed_of_exec {c : Instr} {s t : State} (h : exec c s = .next t) : c.wellFormed = true := by
  cases c with
  | badOpcode => exact badOpcode_wellFormed.2 fun hknown => nomatch (if_pos hknown).symm.trans h
  | _ => rfl

/-- A service that refuses leaves the state it found, and its frame clears the arming mark. -/
theorem State.ServedBy.refused {s t : State} {armed : Bool} {serve : State → Served}
    (h : s.ServedBy (.next t) armed serve) (hs : s.hears = true) (hok : t.link.result ≠ some .ok)
    (hclamped : t.link.result ≠ some .clamped) :
    t = { s with unit := { s.unit with armed := false }, link := t.link } := by
  obtain rfl : (serve s).finish armed = t :=
    Host.Outcome.next.inj ((request_heard armed serve hs).symm.trans h.asRequest.symm)
  have hresult : (serve s).result ≠ .ok := fun heq => hok (congrArg some heq)
  have hclear : armed = false := by
    cases armed <;> [rfl; exact absurd (h.arms rfl) hresult]
  have hsame : (serve s).state = s :=
    (h.spares.resolve_left hresult).resolve_left fun heq => hclamped (congrArg some heq)
  simp only [Served.finish, hsame, hclear]

theorem missFrame_link (s : State) :
    s.missFrame = { s with link := { s.link with phase := if s.resetting then .waitRise else s.link.phase } } := by
  unfold State.missFrame; split <;> rfl

/-- Settles O5, by what every service leaves and what a frame missed leaves. -/
theorem refusedRequestChangesNothing : Obligations.RefusedRequestChangesNothing := by
  refine ⟨fun c s t hc hs ht hok hclamped => ?_, fun c s hc hw hs => ?_, hears_iff⟩
  · obtain ⟨_, _, hserved⟩ := exec_servesIn s hc (wellFormed_of_exec ht)
    exact (ht ▸ hserved).refused hs hok hclamped
  · obtain ⟨armed, serve, hserved⟩ := exec_servesIn s hc hw
    rw [hserved.asRequest, request_unheard armed serve hs, missFrame_link]

/-! ## One step, READ CAPS and READ STATUS -/

/-- Settles O1. -/
theorem stepTakesFrontCommand : Obligations.StepTakesFrontCommand := by
  intro s c rest h
  unfold step
  rw [h]

/-- Settles O7. -/
theorem readCapsReply : Obligations.ReadCapsReply := by
  intro s h
  have hcaps : capsReply =
      [0x56, 0x01, 0x04, 0x08, 0x20, 0x10, 0x04, 0x64, 0x0E, 0x10, 0x0D, 0x0A, 0x01, 0x7F, 0x0A, 0x00] := by decide
  rw [← hcaps]
  exact request_answered (accept · capsReply) h

/-- A byte made of seven flags shows each in its bit, and no other. -/
theorem byteOf_sevenBits (a b c d e f g : Bool) :
    let w := byteOf (bit a + 2 * bit b + 4 * bit c + 8 * bit d + 16 * bit e + 32 * bit f + 64 * bit g)
    w.getLsbD 0 = a ∧ w.getLsbD 1 = b ∧ w.getLsbD 2 = c ∧ w.getLsbD 3 = d ∧ w.getLsbD 4 = e ∧ w.getLsbD 5 = f
      ∧ w.getLsbD 6 = g ∧ w.toNat < 128 := by
  revert a b c d e f g; decide

theorem byteOf_toNat (n : Nat) : (byteOf n).toNat = n % 256 := BitVec.toNat_ofNat n 8

/-- The bytes of a four-byte field are its number, most significant first. -/
theorem be32_value {n : Nat} (h : n ≤ 4294967295) :
    (byteOf (n / 16777216)).toNat * 16777216 + (byteOf (n / 65536)).toNat * 65536 + (byteOf (n / 256)).toNat * 256
      + (byteOf n).toNat = n := by
  simp only [byteOf_toNat]; omega

/-- Outside a reset ALERT_N shows a flag that the mask lets through (R155). -/
theorem alertLow_running {s : State} (h : s.resetting = false) :
    s.alertLow = (s.faults.flags &&& s.faults.mask != 0) := by
  simp [State.alertLow, FaultRegister.alerting, h]

/-- Settles O8: each byte of the reply by its field. -/
theorem readStatusReply : Obligations.ReadStatusReply := by
  intro s h huptime hshort
  have halert := alertLow_running ((hears_iff s).1 h).1
  obtain ⟨c0, c1, c2, c3, hcauses⟩ :=
    byteOf_fourBits s.unit.causes.power s.unit.causes.pin s.unit.causes.clock s.unit.causes.command
  obtain ⟨f0, f1, f2, f3, f4, f5, f6, hflags⟩ := byteOf_sevenBits s.locks.supervision s.locks.timing s.lamp.present
    s.unit.armed s.alertLow s.faults.further s.sup.enable
  refine ⟨_, _, _, _, _, _, _, _, request_answered (fun s => accept s s.statusReply) h, ?_, c0, c1, c2, c3, hcauses,
    f0, f1, f2, f3, f4.trans halert, f5, f6, hflags, be32_value huptime, ?_⟩
  · cases s.sup.stage <;> rfl
  · rw [byteOf_toNat]; omega

/-! ## The edges of CS_N -/

section Edges
variable {s : State}

theorem riseOfCs_wait (h : s.resetting = true ∨ s.link.phase = .waitRise) :
    s.riseOfCs = { s with link := { s.link with phase := .idle } } := if_pos (by simpa using h)

theorem riseOfCs_pending (hs : s.resetting = false) (hw : s.link.phase ≠ .waitRise)
    (hp : s.unit.restartPending = true) : s.riseOfCs = s := by simp [State.riseOfCs, hs, hw, hp]

/-- R169: the rise after a complete frame. -/
theorem riseOfCs_reply (h : s.hears = true) (hphase : s.link.phase = .reply) :
    s.riseOfCs = { s with link :=
      { phase := .idle, shortFrames := s.link.shortFrames, result := none, reply := [] } } := by
  obtain ⟨hs, hp⟩ := (hears_iff s).1 h
  simp [State.riseOfCs, hs, hp, hphase]

/-- R169: the rise that cuts a frame, or ends one without a request. -/
theorem riseOfCs_short (h : s.hears = true) (hphase : s.link.phase = .idle ∨ s.link.phase = .receiving) :
    s.riseOfCs = { s with link :=
      { phase := .idle, shortFrames := min (s.link.shortFrames + 1) 255, result := none, reply := [] } } := by
  obtain ⟨hs, hp⟩ := (hears_iff s).1 h
  obtain hphase | hphase := hphase <;> simp [State.riseOfCs, hs, hp, hphase, satAdd]

/-- A fall begins a frame, and the rise before it counts the frame that it cuts (R167, R169). -/
theorem fallOfCs_heard (h : s.hears = true) :
    s.fallOfCs = { s with link :=
      { phase := .receiving
        shortFrames := if s.link.phase = .receiving then min (s.link.shortFrames + 1) 255 else s.link.shortFrames
        result := none, reply := [] } } := by
  unfold State.fallOfCs
  rw [if_pos h]
  cases hphase : s.link.phase with
  | idle => simp
  | receiving => simp [riseOfCs_short h (.inr hphase)]
  | reply => simp [riseOfCs_reply h hphase]
  | waitRise => simp [riseOfCs_wait (.inr hphase)]

theorem fallOfCs_unheard (h : s.hears = false) : s.fallOfCs = s.missFrame := if_neg (by simp [h])

end Edges

/-- Settles O9: the rises and the falls by the phase of the link, and the unknown opcode. -/
theorem frameBoundaries : Obligations.FrameBoundaries := by
  refine ⟨fun s h => congrArg _ (fallOfCs_heard h), fun s hs => ?_,
    fun s h hphase => congrArg _ (riseOfCs_short h hphase), fun s h hphase => congrArg _ (riseOfCs_reply h hphase),
    fun s h => congrArg _ (riseOfCs_wait h), fun s hs hp => ⟨?_, fun hw => congrArg _ (riseOfCs_pending hs hw hp)⟩,
    fun s op hop h => ?_⟩
  · have hdeaf : s.hears = false := by simp [State.hears, hs]
    exact congrArg _ ((fallOfCs_unheard hdeaf).trans (missFrame_resetting hs))
  · have hdeaf : s.hears = false := by simp [State.hears, hp]
    exact congrArg _ ((fallOfCs_unheard hdeaf).trans (missFrame_running hs))
  · have hout : ¬ knownOpcodes.contains op = true := by simpa using hop
    exact (if_neg hout).trans (request_answered (refuse · .badOpcode) h)

end Sys2Proof.Machine

/-! # Every well-formed command completes, and leaves the queue and the counter of choices as they are -/

namespace Sys2Proof.Machine

/-! ## The agenda: what no command touches -/

/-- What decides which command comes next: those that wait, and the counter of choices between due events. -/
def State.agenda (s : State) : List Instr × Nat := (s.pending, s.choices)

theorem agenda_eq_iff {s t : State} : t.agenda = s.agenda ↔ t.pending = s.pending ∧ t.choices = s.choices := 
  Prod.mk_inj

/-- The outcome is a next state with the agenda of `s`. -/
def State.CompletesIn (s : State) (o : Host.Outcome State Fault Refusal) : Prop := ∃ t, o = .next t ∧ t.agenda = s.agenda

theorem either_agenda {p : Prop} [Decidable p] {s t u : State} (h : t.agenda = s.agenda) (g : u.agenda = s.agenda) :
    (if p then t else u).agenda = s.agenda := by split <;> [exact h; exact g]

theorem ite_agenda {p : Prop} [Decidable p] {s t : State} (h : t.agenda = s.agenda) :
    (if p then t else s).agenda = s.agenda := either_agenda h rfl

theorem RecordsMove.agenda {s t : State} (h : RecordsMove s t) : t.agenda = s.agenda := by rw [h]; rfl

/-! ### How a command is taken -/

section Taken
variable {s : State}

theorem next_completes {t : State} (h : t.agenda = s.agenda) : s.CompletesIn (.next t) := ⟨t, rfl, h⟩

theorem event_completes {f : State → State} (h : (f s).agenda = s.agenda) : s.CompletesIn (event f s) :=
  next_completes (either_agenda rfl h)

theorem missFrame_agenda (s : State) : s.missFrame.agenda = s.agenda := ite_agenda rfl

/-- Heard or missed, a frame completes. -/
theorem request_completes {armed : Bool} {serve : State → Served} (h : (serve s).state.agenda = s.agenda) :
    s.CompletesIn (request armed serve s) := next_completes (either_agenda h (missFrame_agenda s))

theorem eitherServed_agenda {p : Prop} [Decidable p] {v w : Served} (h : v.state.agenda = s.agenda)
    (g : w.state.agenda = s.agenda) : (if p then v else w).state.agenda = s.agenda := by split <;> [exact h; exact g]

/-- A record's number out of range refuses the request, which then changes nothing. -/
theorem withChannel_agenda {b : Byte} {serve : Fin 32 → State → Served}
    (h : ∀ c, (serve c s).state.agenda = s.agenda) : (withChannel b serve s).state.agenda = s.agenda := by
  unfold withChannel; split <;> [rfl; exact h _]

theorem withPlan_agenda {b : Byte} {serve : Fin 16 → State → Served}
    (h : ∀ p, (serve p s).state.agenda = s.agenda) : (withPlan b serve s).state.agenda = s.agenda := by
  unfold withPlan; split <;> [rfl; exact h _]

theorem withRamp_agenda {b : Byte} {serve : Fin 4 → State → Served}
    (h : ∀ r, (serve r s).state.agenda = s.agenda) : (withRamp b serve s).state.agenda = s.agenda := by
  unfold withRamp; split <;> [rfl; exact h _]

theorem withLane_agenda {b : Byte} {serve : Fin 8 → State → Served}
    (h : ∀ l, (serve l s).state.agenda = s.agenda) : (withLane b serve s).state.agenda = s.agenda := by
  unfold withLane; split <;> [rfl; exact h _]

end Taken

section Agenda
variable (s : State)

/-! ## The shared operations -/

theorem hearChannel_agenda (b : Option (Fin 4)) : (s.hearChannel b).agenda = s.agenda := by
  rw [hearChannel_frame]; rfl

theorem rewriteChannel_agenda (c : Fin 32) (x : Channel) : (s.rewriteChannel c x).agenda = s.agenda :=
  (hearChannel_agenda _ _).trans (hearChannel_agenda (s.setChan c x) _)

theorem failChannel_agenda (c : Fin 32) (kind : ChannelFault) : (s.failChannel c kind).agenda = s.agenda :=
  hearChannel_agenda _ _

theorem refreshServed_agenda (c : Fin 32) : (s.refreshServed c).agenda = s.agenda := by
  rw [refreshServed_frame]; rfl

theorem actuate_agenda (c : Fin 32) : (s.actuate c).agenda = s.agenda := by
  have hactuated : (s.actuated c).agenda = s.agenda := by rw [actuated_frame]; rfl
  rw [actuate_eq]
  exact either_agenda ((failChannel_agenda _ c _).trans hactuated) hactuated

theorem startRamp_agenda (r : Fin 4) : (s.startRamp r).agenda = s.agenda := by
  unfold State.startRamp; split <;> [rfl; skip]
  simp [State.agenda, State.enterMetering, State.lightMembers, State.mapMembers, State.restartSilence,
    State.clearQueueTimers, refreshCalls_eq]

theorem enterSuspended_agenda (r : Fin 4) (minutes : Nat) : (s.enterSuspended r minutes).agenda = s.agenda := by
  simp [State.agenda, State.enterSuspended, State.mapMembers, State.restartSilence, State.clearQueueTimers]

theorem resumeRamp_agenda (r : Fin 4) : (s.resumeRamp r).agenda = s.agenda := by
  simp [State.agenda, State.resumeRamp, State.lightMembers, State.mapMembers, State.restartSilence,
    State.clearQueueTimers, refreshCalls_eq]

theorem stopRamp_agenda (r : Fin 4) : (s.stopRamp r).agenda = s.agenda := (stopRamp_recordsMove s r).agenda

theorem refreshRamp_agenda (r : Fin 4) : (s.refreshRamp r).agenda = s.agenda := (refreshRamp_recordsMove s r).agenda

theorem rewriteLane_agenda (l : Fin 8) (x : Lane) : (s.rewriteLane l x).agenda = s.agenda :=
  (rewriteLane_recordsMove s l x).agenda

theorem moveLane_agenda (l : Fin 8) (source : LaneState) (next : Lane → LaneState) :
    (s.moveLane l source next).agenda = s.agenda := ite_agenda (rewriteLane_agenda s l _)

theorem lockLane_agenda (l : Fin 8) (cause : LockCause) : (s.lockLane l cause).agenda = s.agenda :=
  rewriteLane_agenda s l _

/-! ## The link, the supervision and the resets -/

theorem riseOfCs_agenda : s.riseOfCs.agenda = s.agenda :=
  either_agenda rfl (either_agenda rfl (either_agenda rfl rfl))

theorem fallOfCs_agenda : s.fallOfCs.agenda = s.agenda :=
  either_agenda (show (if s.link.phase = .idle then s else s.riseOfCs).agenda = s.agenda from
    either_agenda rfl (riseOfCs_agenda s)) (missFrame_agenda s)

theorem fullReset_agenda (kinds causes : ResetKinds) : ((s.fullReset kinds).setCauses causes).agenda = s.agenda :=
  agenda_eq_iff.2 (fullReset_queue kinds causes s).symm

theorem commandRestart_agenda : s.commandRestart.agenda = s.agenda := by
  rw [commandRestart_eq]; simp only [State.agenda]

theorem beginStage2_agenda : s.beginStage2.agenda = s.agenda := (beginStage2_halted s).frame.agenda

theorem serveSetLock_agenda (kind : Byte) : (serveSetLock kind s).state.agenda = s.agenda := by
  unfold serveSetLock
  split <;> [exact eitherServed_agenda rfl (eitherServed_agenda rfl rfl); rfl; rfl]

/-! ## The requests of the channels -/

theorem serveDetectorConfigure_agenda (role binding : Byte) (t : ChannelTimings) (c : Fin 32) :
    (serveDetectorConfigure role binding t c s).state.agenda = s.agenda := by
  refine eitherServed_agenda rfl ?_
  split <;> [rfl; exact eitherServed_agenda rfl (rewriteChannel_agenda s c _)]

theorem serveDetectorPark_agenda (c : Fin 32) : (serveDetectorPark c s).state.agenda = s.agenda := by
  unfold serveDetectorPark; split
  case h_1 | h_2 => rfl
  all_goals exact rewriteChannel_agenda s c _

theorem serveDetectorUnpark_agenda (c : Fin 32) : (serveDetectorUnpark c s).state.agenda = s.agenda := by
  unfold serveDetectorUnpark; split
  case h_4 => exact rewriteChannel_agenda s c _
  all_goals rfl

theorem serveDetectorRestore_agenda (c : Fin 32) : (serveDetectorRestore c s).state.agenda = s.agenda := by
  unfold serveDetectorRestore; split
  case h_4 => exact rewriteChannel_agenda s c _
  all_goals rfl

/-! ## The requests of the ramps -/

theorem serveRampConfigure_agenda (p : RampSettings) (r : Fin 4) :
    (serveRampConfigure p r s).state.agenda = s.agenda := by
  unfold serveRampConfigure; split
  case h_2 => rw [acceptClamped_state, reconfigureRamp_frame]; rfl
  all_goals rfl

theorem serveRampPlan_agenda (plan : Byte) (r : Fin 4) : (serveRampPlan plan r s).state.agenda = s.agenda := by
  unfold serveRampPlan
  split <;> [rfl; exact eitherServed_agenda rfl (eitherServed_agenda rfl rfl)]

theorem serveRampMode_agenda (mode : Byte) (r : Fin 4) : (serveRampMode mode r s).state.agenda = s.agenda := by
  refine eitherServed_agenda rfl ?_
  split <;> rfl

theorem serveRampStart_agenda (r : Fin 4) : (serveRampStart r s).state.agenda = s.agenda := by
  refine eitherServed_agenda rfl ?_
  split <;> [rfl; exact startRamp_agenda s r]

theorem serveRampSuspend_agenda (minutes : Nat) (r : Fin 4) : (serveRampSuspend minutes r s).state.agenda = s.agenda :=
  eitherServed_agenda rfl (eitherServed_agenda rfl (eitherServed_agenda rfl (enterSuspended_agenda s r _)))

/-! ## The requests of the lanes -/

theorem serveLaneConfigure_agenda (ramp : Byte) (t : LaneTimings) (l : Fin 8) :
    (serveLaneConfigure ramp t l s).state.agenda = s.agenda := by
  unfold serveLaneConfigure
  split <;> [rfl; refine eitherServed_agenda rfl ?_]
  split <;> [rfl; exact eitherServed_agenda rfl (eitherServed_agenda rfl (rewriteLane_agenda s l _))]

theorem serveLaneEnable_agenda (l : Fin 8) : (serveLaneEnable l s).state.agenda = s.agenda := by
  unfold serveLaneEnable
  split <;> [rfl; exact eitherServed_agenda rfl (eitherServed_agenda rfl
    (eitherServed_agenda rfl (rewriteLane_agenda s l _)))]

/-! ## The interval close and the grant -/

theorem closeMeasured_agenda (r : Fin 4) : (s.closeMeasured r).agenda = s.agenda := by
  rw [closeMeasured_eq]; simp only [State.agenda]

theorem activate_agenda (r : Fin 4) : (s.activate r).agenda = s.agenda := by
  refine ite_agenda ?_
  split
  · exact either_agenda (either_agenda (startRamp_agenda s r) rfl) rfl
  · exact either_agenda (stopRamp_agenda s r) rfl
  · rfl

theorem closeInterval_agenda (r : Fin 4) : (s.closeInterval r).agenda = s.agenda := by
  rw [closeInterval_eq, activate_agenda, closeMeasured_agenda]

theorem queueCorrection_completes (c : Fin 32) : s.CompletesIn (execQueueCorrection c s) := by
  refine event_completes ?_
  cases (s.chan c).duty with
  | queue r => exact ite_agenda rfl
  | unused | mainline | entry | demand | passage => rfl

theorem grant_completes (r : Fin 4) : s.CompletesIn (execGrant r s) := by
  refine event_completes ?_
  split <;> [rfl; refine ite_agenda ?_]
  rw [grantLane_eq]; rfl

/-! ## The lamps -/

theorem redSuspectOnset_completes (l : Fin 8) : s.CompletesIn (execRedSuspectOnset l s) := by
  refine event_completes (ite_agenda ?_)
  split <;> rfl

theorem endSuspicion_agenda (l : Fin 8) : (s.endSuspicion l).agenda = s.agenda := by
  unfold State.endSuspicion
  split <;> rfl

theorem redRecheck_completes (l : Fin 8) : s.CompletesIn (execRedRecheck l s) := by
  have hfailed : (s.failRecheck l).agenda = s.agenda := either_agenda rfl (lockLane_agenda _ l _)
  exact event_completes
    (either_agenda rfl (either_agenda rfl (either_agenda (endSuspicion_agenda s l) hfailed)))

theorem conflictQualified_completes (l : Fin 8) : s.CompletesIn (execConflictQualified l s) := by
  refine event_completes ?_
  split <;> [skip; rfl]
  next r detail _ _ =>
  have hmoved : (s.conflicted l r detail).agenda = s.agenda := (conflicted_recordsMove s l r detail).agenda
  rw [qualifyConflict_eq, refreshRamp_agenda, stopRamp_agenda, hmoved]

theorem loseSupply_agenda : s.loseSupply.agenda = s.agenda := by
  rw [loseSupply_eq, refreshAll_eq]
  simp only [refreshRamp_agenda]
  rfl

theorem supplyInput_agenda (high : Bool) : (s.supplyInput high).agenda = s.agenda := by
  refine either_agenda rfl ?_
  cases high <;> rfl

end Agenda

/-! ## Every command -/

/-- Each command by its own arm: a request, served or missed, an event, a reset or a change of a pin. Only BAD_OPCODE asks for
well-formedness: its opcode is then outside the table, and its frame is complete (R170). -/
theorem exec_completes {c : Instr} (s : State) (hw : c.wellFormed = true) : s.CompletesIn (exec c s) := by
  unfold exec
  cases c with
  | badOpcode opcode =>
    show s.CompletesIn (if _ then _ else _)
    rw [if_neg (badOpcode_wellFormed.1 hw)]
    exact request_completes rfl
  | readCaps | readStatus | faultRead | faultClear | alertMask | clearCauses | restartArm => exact request_completes rfl
  | keepalive | supervisionSet | restart =>
    exact request_completes (eitherServed_agenda rfl (eitherServed_agenda rfl rfl))
  | setLock kind => exact request_completes (serveSetLock_agenda s kind)
  | lampSettings => exact request_completes (eitherServed_agenda rfl rfl)
  | commandRestart => exact next_completes (ite_agenda (commandRestart_agenda s))
  | powerUpReset | pinReset | clockLossReset => exact next_completes (fullReset_agenda s _ _)
  | resetEnd => exact next_completes (ite_agenda (fullReset_agenda s _ _))
  | frameBegin => exact next_completes (fallOfCs_agenda s)
  | shortFrame => exact next_completes (riseOfCs_agenda s)
  | detectorConfigure => exact request_completes (withChannel_agenda (serveDetectorConfigure_agenda s _ _ _))
  | detectorPark => exact request_completes (withChannel_agenda (serveDetectorPark_agenda s))
  | detectorUnpark => exact request_completes (withChannel_agenda (serveDetectorUnpark_agenda s))
  | detectorRestore => exact request_completes (withChannel_agenda (serveDetectorRestore_agenda s))
  | detectorRead => exact request_completes (withChannel_agenda fun _ => rfl)
  | planWrite | planRetire => exact request_completes (withPlan_agenda fun _ => eitherServed_agenda rfl rfl)
  | planRead => exact request_completes (withPlan_agenda fun _ => rfl)
  | rampConfigure => exact request_completes (withRamp_agenda (serveRampConfigure_agenda s _))
  | rampPlan => exact request_completes (withRamp_agenda (serveRampPlan_agenda s _))
  | rampMode => exact request_completes (withRamp_agenda (serveRampMode_agenda s _))
  | rampStart => exact request_completes (withRamp_agenda (serveRampStart_agenda s))
  | rampSuspend => exact request_completes (withRamp_agenda (serveRampSuspend_agenda s _))
  | rampStop => exact request_completes (withRamp_agenda fun r => eitherServed_agenda rfl (stopRamp_agenda s r))
  | rampResume => exact request_completes (withRamp_agenda fun r => eitherServed_agenda (resumeRamp_agenda s r) rfl)
  | rampClose | rampOverride =>
    exact request_completes (withRamp_agenda fun _ => eitherServed_agenda rfl (eitherServed_agenda rfl rfl))
  | rampOverrideCancel | rampRead => exact request_completes (withRamp_agenda fun _ => rfl)
  | laneConfigure => exact request_completes (withLane_agenda (serveLaneConfigure_agenda s _ _))
  | laneEnable => exact request_completes (withLane_agenda (serveLaneEnable_agenda s))
  | laneDisable => exact request_completes (withLane_agenda fun l => rewriteLane_agenda s l _)
  | laneRestore =>
    exact request_completes (withLane_agenda fun l => eitherServed_agenda (rewriteLane_agenda s l _) rfl)
  | laneRead => exact request_completes (withLane_agenda fun _ => rfl)
  | actuation c => exact event_completes (ite_agenda (actuate_agenda s c))
  | qualifiedFallingEdge c | acquisition c => exact event_completes (ite_agenda (refreshServed_agenda _ c))
  | stuckOnExpiry c | silenceExpiry c => exact event_completes (ite_agenda (failChannel_agenda _ c _))
  | queueCorrection c => exact queueCorrection_completes s c
  | chatterWindowEnd | emptyCorrection | holdOffEnd | auxLampOut | stage1Onset =>
    exact event_completes (ite_agenda rfl)
  | suspensionExpiry r => exact event_completes (ite_agenda (resumeRamp_agenda s r))
  | overrideExpiry | senseSettleEnd => exact event_completes rfl
  | intervalClose r => exact event_completes (either_agenda rfl (closeInterval_agenda s r))
  | grant r => exact grant_completes s r
  | provingClear l => exact event_completes (ite_agenda (moveLane_agenda s l _ _))
  | startAmberExpiry l | minRedExpiry l | greenExpiry l | amberExpiry l | flushExpiry l =>
    exact event_completes (moveLane_agenda s l _ _)
  | provingWindowEnd l => exact event_completes (ite_agenda (lockLane_agenda _ l _))
  | redSuspectOnset l => exact redSuspectOnset_completes s l
  | redRecheck l => exact redRecheck_completes s l
  | conflictQualified l => exact conflictQualified_completes s l
  | supplyLoss => exact event_completes (ite_agenda (loseSupply_agenda s))
  | supplyReturn => exact event_completes (either_agenda rfl rfl)
  | stage2Onset => exact event_completes (ite_agenda (beginStage2_agenda s))
  | detectorInputChange | lampSenseChange => exact next_completes rfl
  | lampSupplyInputChange high => exact next_completes (supplyInput_agenda s high)

/-- Settles O3: each command by its own arm, and the one term that is no command. -/
theorem everyCommandCompletes : Obligations.EveryCommandCompletes := by
  refine ⟨fun c s hw => ?_, fun op s hknown => if_pos (List.contains_iff_mem.2 hknown)⟩
  obtain ⟨t, ht, hagenda⟩ := exec_completes s hw
  exact ⟨t, ht, agenda_eq_iff.1 hagenda⟩

end Sys2Proof.Machine

/-! # The requests that open, run and close a ramp -/

namespace Sys2Proof.Machine

/-! ## Requests on a ramp -/

/-- A request on a ramp number above 3 is refused with BAD_ID (chapter 5). -/
theorem rampRequest_bad {b : Byte} (hb : 4 ≤ b.toNat) (serve : Fin 4 → State → Served) {s : State}
    (h : s.hears = true) : request false (withRamp b serve) s = .next (s.answered .badId) := by
  rw [request_answered _ h, withRamp_bad hb]; rfl

/-- Two states with equal ramps, record by record. -/
theorem State.ramps_ext {s t : State} (h : ∀ r, t.ramp r = s.ramp r) : t.ramps = s.ramps :=
  Vector.ext fun i hi => h ⟨i, hi⟩

/-- Writing the record that a ramp holds changes nothing. -/
theorem State.setRamp_self (s : State) (r : Fin 4) : s.setRamp r (s.ramp r) = s := by
  have h : (s.setRamp r (s.ramp r)).ramps = s.ramps := State.ramps_ext fun i => by
    rw [State.setRamp_ramp]
    split
    · next e => rw [e]
    · rfl
  exact State.ext_fields rfl rfl h rfl rfl rfl rfl rfl rfl rfl rfl rfl rfl

/-! ## RAMP CLOSE -/

theorem rampHeld_iff (s : State) (r : Fin 4) :
    s.rampHeld r = true ↔ (∃ l, (s.lane l).ramp = some r) ∨ ∃ c, s.boundRamp c = some r := by
  simp [State.rampHeld, List.eq_nil_iff_forall_not_mem, mem_members]

/-- Settles O33: the checks of R62 in their order, and the record at its full-reset value. -/
theorem rampCloseReturnsTheRecord : Obligations.RampCloseReturnsTheRecord := by
  refine fun s h => ⟨fun b hb => rampRequest_bad hb serveRampClose h, fun r => ?_⟩
  have hserved : ∀ {v : Served}, serveRampClose r s = v →
      exec (.rampClose (byteOf r)) s = .next (v.state.answered v.result v.reply) := fun hv => rampRequest_served r h hv
  refine ⟨fun hs => hserved (if_pos hs), fun hs hheld => ?_, fun hs hlanes hchans => ?_⟩
  · exact hserved (v := refuse s .inUse) (by simp [serveRampClose, hs, (rampHeld_iff s r).2 hheld])
  · have hheld : ¬ s.rampHeld r = true := by
      rw [rampHeld_iff]
      exact not_or.2 ⟨not_exists.2 hlanes, not_exists.2 hchans⟩
    rw [hserved (v := accept (s.setRamp r Ramp.fullReset)) (by simp [serveRampClose, hs, hheld]), reset_ramp]
    rfl

/-! ## RAMP PLAN and RAMP MODE -/

theorem orNone_plan_bad {b : Byte} (h : 16 ≤ b.toNat) (hne : b ≠ 0xFF) : orNone planOf? b = none := by
  rw [orNone, if_neg (show b ≠ noneByte from hne), planOf_bad h]; rfl

theorem orNone_plan_indexByte (plan : Option (Fin 16)) : orNone planOf? (indexByte plan) = some plan := by
  revert plan; decide

/-- A plan operand names a plan or none. -/
theorem exists_indexByte_plan {b : Byte} (h : b.toNat < 16 ∨ b = 0xFF) : ∃ plan : Option (Fin 16), b = indexByte plan := by
  obtain h | h := h
  · refine ⟨some ⟨b.toNat, h⟩, BitVec.eq_of_toNat_eq ?_⟩
    show b.toNat = (byteOf b.toNat).toNat
    rw [byteOf_toNat]; omega
  · exact ⟨none, h⟩

/-- The checks of RAMP PLAN on a plan operand that names a plan or none (R72). -/
theorem serveRampPlan_indexByte (plan : Option (Fin 16)) (r : Fin 4) (s : State) :
    serveRampPlan (indexByte plan) r s =
      if s.rampState r = .closed then refuse s .wrongState
      else if !s.planNamed plan then refuse s .undefined
      else accept (s.modCtl r (RampControl.assign plan)) := by
  simp only [serveRampPlan, orNone_plan_indexByte]

/-- The references written, with the run counters that naming none holds at 0 (R54, R70, R72). -/
theorem assign_eq (plan : Option (Fin 16)) (x : RampControl) :
    x.assign plan =
      if x.state = .standby then
        { x with
          active := plan, pending := none
          onRun := if plan = none then 0 else x.onRun
          offRun := if plan = none then 0 else x.offRun }
      else { x with pending := plan } := by
  cases plan <;> rfl

theorem modeOf_code (m : Mode) : modeOf? (byteOf m.code) = some m := by cases m <;> rfl

theorem modeOf_bad {b : Byte} (h : 1 < b.toNat) : modeOf? b = none := by
  unfold modeOf?; split
  · next h0 => omega
  · next h1 => omega
  · rfl

/-- The mode written, the run counters of that ramp alone are cleared, and only where its effective mode changes (R69). -/
theorem clearRuns_setMode (s : State) (r : Fin 4) (m : Mode) :
    s.clearRuns (s.modCtl r fun c => { c with mode := m }) = s.setRamp r { s.ramp r with
      ctl := { (s.ramp r).ctl with
        mode := m
        onRun := if s.sup.stage = .present ∧ m ≠ (s.ramp r).ctl.mode then 0 else (s.ramp r).ctl.onRun
        offRun := if s.sup.stage = .present ∧ m ≠ (s.ramp r).ctl.mode then 0 else (s.ramp r).ctl.offRun } } := by
  refine State.ext_fields rfl rfl (State.ramps_ext fun i => ?_).symm rfl rfl rfl rfl rfl rfl rfl rfl rfl rfl
  rw [clearRuns_ramp, effectiveMode_eq, effectiveMode_eq, State.modCtl_eq, State.setRamp_ramp, State.setRamp_ramp,
    State.setRamp_sup]
  by_cases hi : i = r
  · subst hi
    simp only [if_true]
    by_cases hs : s.sup.stage = .present
    · by_cases hm : m = (s.ramp i).ctl.mode
      · simp [hs, hm]
      · simp [hs, hm, Ne.symm hm]
    · simp [hs]
  · simp only [if_neg hi, if_true]

/-- Settles O34: RAMP PLAN by what its operand names, and RAMP MODE by the mode it names. -/
theorem rampPlanAndMode : Obligations.RampPlanAndMode := by
  refine ⟨fun s plan h => ⟨fun b hb => rampRequest_bad hb _ h, fun r => ?_⟩,
    fun s r => ⟨fun hs => if_pos hs, fun hs => if_neg ?_⟩, rfl, rfl,
    fun s mode h => ⟨fun b hb => rampRequest_bad hb _ h, fun r => ?_⟩⟩
  · have hserved : ∀ {v : Served}, serveRampPlan plan r s = v →
        exec (.rampPlan (byteOf r) plan) s = .next (v.state.answered v.result v.reply) := fun hv => rampRequest_served r h hv
    refine ⟨fun hb hne => ?_, fun hplan hclosed => ?_, fun p hp hopen hfree => ?_, fun named hp hopen hdefined => ?_⟩
    · exact hserved (v := refuse s .badId) (by simp only [serveRampPlan, orNone_plan_bad hb hne])
    · obtain ⟨named, rfl⟩ := exists_indexByte_plan hplan
      exact hserved (v := refuse s .wrongState) ((serveRampPlan_indexByte named r s).trans (if_pos hclosed))
    · subst hp
      refine hserved (v := refuse s .undefined) ((serveRampPlan_indexByte (some p) r s).trans ?_)
      simp [hopen, State.planNamed, hfree]
    · subst hp
      have hnamed : s.planNamed named = true := by
        cases named with
        | none => rfl
        | some p => exact hdefined p rfl
      rw [hserved (v := accept (s.modCtl r (RampControl.assign named)))
        ((serveRampPlan_indexByte named r s).trans (by simp [hopen, hnamed])), accept_state, State.modCtl_eq, assign_eq]
      rfl
  · obtain hs | hs := hs <;> simp [hs]
  · have hserved : ∀ {v : Served}, serveRampMode mode r s = v →
        exec (.rampMode (byteOf r) mode) s = .next (v.state.answered v.result v.reply) := fun hv => rampRequest_served r h hv
    refine ⟨fun hclosed => hserved (v := refuse s .wrongState) (if_pos hclosed), fun hopen hbad => ?_,
      fun m hm hopen => ?_⟩
    · exact hserved (v := refuse s .badValue) (by simp [serveRampMode, hopen, modeOf_bad hbad])
    · subst hm
      rw [hserved (v := accept (s.clearRuns (s.modCtl r fun c => { c with mode := m })))
        (by simp [serveRampMode, hopen, modeOf_code]), accept_state, clearRuns_setMode]
      rfl

end Sys2Proof.Machine

/-! # A ramp enters METERING and SUSPENDED: RAMP START, RAMP STOP, RAMP SUSPEND and RAMP RESUME -/

namespace Sys2Proof.Machine

/-! ## The parts of a change of a ramp's state -/

theorem mapMembers_lane (s : State) (r : Fin 4) (f : Lane → Lane) (l : Fin 8) :
    (s.mapMembers r f).lane l = if (s.lane l).ramp = some r then f (s.lane l) else s.lane l :=
  State.mapLanes_lane _ _ _

@[simp] theorem mapMembers_ramp (s : State) (r : Fin 4) (f : Lane → Lane) : (s.mapMembers r f).ramp = s.ramp :=
  State.mapLanes_ramp _ _

@[simp] theorem mapMembers_chan (s : State) (r : Fin 4) (f : Lane → Lane) : (s.mapMembers r f).chan = s.chan :=
  State.mapLanes_chan _ _

@[simp] theorem mapMembers_rampState (s : State) (r : Fin 4) (f : Lane → Lane) :
    (s.mapMembers r f).rampState = s.rampState := by
  funext i; simp only [State.rampState, mapMembers_ramp]

theorem mapChans_recordsMove (s : State) (f : Fin 32 → Channel → Channel) : RecordsMove s (s.mapChans f) := by
  simp only [RecordsMove, State.mapChans]

theorem mapMembers_recordsMove (s : State) (r : Fin 4) (f : Lane → Lane) : RecordsMove s (s.mapMembers r f) := by
  simp only [RecordsMove, State.mapMembers, State.mapLanes]

/-- Everything but channels, ramps and lanes stands, the lamp unit among it. -/
theorem RecordsMove.lamp {s t : State} (h : RecordsMove s t) : t.lamp = s.lamp := by rw [h]

/-- The channels of a ramp whose state changes: its queue timers and served marks go, its silence timers restart (R12, R32,
R40). -/
def State.restartedChan (s : State) (r : Fin 4) (c : Fin 32) : Channel :=
  { s.chan c with
    queueTimer := if (s.chan c).duty = .queue r then 0 else (s.chan c).queueTimer
    served := if (s.chan c).duty = .queue r then false else (s.chan c).served
    silence := if s.boundRamp c = some r ∧ (s.chan c).state = .active then 0 else (s.chan c).silence }

/-- Ramp `r` takes the record `x` of a new state, with the timers of its channels anew (R12, R32). -/
def State.changeOver (s : State) (r : Fin 4) (x : Ramp) : State :=
  ((s.setRamp r x).clearQueueTimers r).restartSilence r

section ChangeOver
variable (s : State) (r : Fin 4) (x : Ramp)

theorem clearQueueTimers_chan (c : Fin 32) :
    (s.clearQueueTimers r).chan c =
      if (s.chan c).duty = .queue r then { s.chan c with queueTimer := 0, served := false } else s.chan c :=
  State.mapChans_chan _ _ _

theorem restartSilence_chan (c : Fin 32) :
    (s.restartSilence r).chan c =
      if s.boundRamp c = some r ∧ (s.chan c).state = .active then { s.chan c with silence := 0 } else s.chan c := by
  rw [State.restartSilence, State.mapChans_chan]
  simp only [Bool.and_eq_true, decide_eq_true_eq, isActive_iff]
  rfl

theorem clearQueueTimers_recordsMove : RecordsMove s (s.clearQueueTimers r) := by
  unfold State.clearQueueTimers; exact mapChans_recordsMove s _

theorem restartSilence_recordsMove : RecordsMove s (s.restartSilence r) := by
  unfold State.restartSilence; exact mapChans_recordsMove s _

theorem changeOver_recordsMove : RecordsMove s (s.changeOver r x) :=
  ((setRamp_recordsMove s r x).trans (clearQueueTimers_recordsMove _ r)).trans (restartSilence_recordsMove _ r)

theorem changeOver_ramp (i : Fin 4) : (s.changeOver r x).ramp i = if i = r then x else s.ramp i := by
  simp only [State.changeOver, State.restartSilence, State.clearQueueTimers, State.mapChans_ramp, State.setRamp_ramp]

@[simp] theorem changeOver_lane : (s.changeOver r x).lane = s.lane := by
  simp [State.changeOver, State.restartSilence, State.clearQueueTimers]

@[simp] theorem changeOver_lamp : (s.changeOver r x).lamp = s.lamp := (changeOver_recordsMove s r x).lamp

theorem changeOver_chan (c : Fin 32) : (s.changeOver r x).chan c = s.restartedChan r c := by
  have hbound : ((s.setRamp r x).clearQueueTimers r).boundRamp c = s.boundRamp c :=
    boundRamp_of_bindings (fun i => by rw [clearQueueTimers_chan]; split <;> rfl)
      (fun l => by rw [State.clearQueueTimers, State.mapChans_lane, State.setRamp_lane]) c
  rw [State.changeOver, restartSilence_chan, hbound, clearQueueTimers_chan, State.setRamp_chan, State.restartedChan]
  by_cases hq : (s.chan c).duty = .queue r
  · simp only [if_pos hq]
    split <;> rfl
  · simp only [if_neg hq]
    split <;> rfl

end ChangeOver

/-- A DARK and able lane lights, with the supply into PROVING, else into SUPPLY_OUT (R115). -/
theorem Lane.light_eq (supply : Bool) (x : Lane) :
    x.light supply = if x.state = .dark ∧ x.able = true then x.enter (if supply then .proving else .supplyOut) else x := by
  simp only [Lane.light, Bool.and_eq_true, decide_eq_true_eq]

/-! ## The entry to METERING -/

/-- The record of a ramp at its start (R65, R84, R107). -/
def Ramp.started (rateStart : Nat) (x : Ramp) : Ramp :=
  { x with
    ctl := { x.ctl with
      state := .metering, override := none, suspension := none, holdOff := 0, holdOffRun := 0, onRun := 0, offRun := 0 }
    queue := { x.queue with
      stored := 0, spill := false, overflow := 0, slip := 0, corrections := 0, emptyTimer := 0, armed := true }
    rate := x.rate.atStart rateStart
    sched := { waiting := [], sinceGrant := (x.rate.atStart rateStart).headway, fresh := true } }

theorem enterMetering_eq (s : State) (r : Fin 4) (rateStart : Nat) :
    s.enterMetering r rateStart =
      ((s.changeOver r ((s.ramp r).started rateStart)).lightMembers r).refreshCalls r := rfl

theorem enterMetering_recordsMove (s : State) (r : Fin 4) (rateStart : Nat) :
    RecordsMove s (s.enterMetering r rateStart) :=
  ((changeOver_recordsMove s r _).trans (mapMembers_recordsMove _ r _)).trans (setRamp_recordsMove _ r _)

theorem enterMetering_lane (s : State) (r : Fin 4) (rateStart : Nat) (l : Fin 8) :
    (s.enterMetering r rateStart).lane l =
      if (s.lane l).ramp = some r then (s.lane l).light s.lamp.present else s.lane l := by
  rw [enterMetering_eq, refreshCalls_lane, State.lightMembers, mapMembers_lane, changeOver_lane, changeOver_lamp]

theorem enterMetering_chan (s : State) (r : Fin 4) (rateStart : Nat) (c : Fin 32) :
    (s.enterMetering r rateStart).chan c = s.restartedChan r c := by
  rw [enterMetering_eq, refreshCalls_chan, State.lightMembers, mapMembers_chan, changeOver_chan]

/-- What `refreshCalls` forms anew reads the part as it leaves it. -/
theorem refreshCalls_ramp_self (s : State) (r : Fin 4) :
    (s.refreshCalls r).ramp r = (s.ramp r).reformed (s.refreshCalls r) r := by
  rw [refreshCalls_ramp, if_pos rfl,
    reformed_congr (refreshCalls_rampState s r) (refreshCalls_lane s r) (refreshCalls_chan s r)]

theorem refreshCalls_ramp_ne {s : State} {r i : Fin 4} (h : i ≠ r) : (s.refreshCalls r).ramp i = s.ramp i := by
  rw [refreshCalls_ramp, if_neg (Ne.symm h)]

theorem enterMetering_ramp_self (s : State) (r : Fin 4) (rateStart : Nat) :
    (s.enterMetering r rateStart).ramp r =
      ((s.ramp r).started rateStart).reformed (s.enterMetering r rateStart) r := by
  rw [enterMetering_eq, refreshCalls_ramp_self, State.lightMembers, mapMembers_ramp, changeOver_ramp, if_pos rfl]

theorem enterMetering_ramp_ne {s : State} {r i : Fin 4} (h : i ≠ r) (rateStart : Nat) :
    (s.enterMetering r rateStart).ramp i = s.ramp i := by
  rw [enterMetering_eq, refreshCalls_ramp_ne h, State.lightMembers, mapMembers_ramp, changeOver_ramp, if_neg h]

/-- With an empty list, a timer at 0 and the mark set, a ramp that no lane calls has nothing to form anew. -/
theorem reformed_uncalled {t : State} {r : Fin 4} {x : Ramp} (hcalls : ∀ l, t.calls r l = false)
    (hlist : x.sched.waiting = []) (htimer : x.queue.emptyTimer = 0) (harmed : x.queue.armed = true) :
    x.reformed t r = x := by
  have hqueue : { x.queue with emptyTimer := 0, armed := true } = x.queue := by rw [← htimer, ← harmed]
  simp only [Ramp.reformed, hlist, hcalls, List.filter_nil, htimer, harmed, Bool.false_and, List.filter_false, List.append_nil,
    Bool.true_or, ite_self, hqueue]
  rw [← hlist]

/-- A lane that lights from DARK, or is out, is not in RED_READY. -/
theorem Lane.light_not_redReady {x : Lane} (h : x.isOut = true) (supply : Bool) : (x.light supply).state ≠ .redReady := by
  rw [Lane.light_eq]
  split
  · cases supply <;> exact LaneState.noConfusion
  · intro hs
    simp [Lane.isOut, Lane.isLocked, hs] at h

/-- Everything the entry to METERING does to a ramp with nothing on the display (R65). -/
theorem enterMetering_started {s : State} {r : Fin 4} (hout : EveryLaneOut s r) (rateStart : Nat) :
    Started r rateStart s (s.enterMetering r rateStart) := by
  refine ⟨enterMetering_recordsMove s r rateStart, fun i hi => enterMetering_ramp_ne hi rateStart, ?_, fun l => ?_,
    enterMetering_chan s r rateStart⟩
  · rw [enterMetering_ramp_self, reformed_uncalled (fun l => ?_) rfl rfl rfl]
    · rfl
    · rw [← Bool.not_eq_true, calls_iff, enterMetering_lane]
      rintro ⟨-, hr, hstate, -⟩
      by_cases hl : (s.lane l).ramp = some r
      · rw [if_pos hl] at hstate
        exact Lane.light_not_redReady (hout l hl) _ hstate
      · rw [if_neg hl] at hr
        exact hl hr
  · rw [enterMetering_lane, Lane.light_eq]
    by_cases hl : (s.lane l).ramp = some r <;> simp [hl]

/-! ## RAMP START -/

theorem ableLanes_isEmpty_iff (s : State) (r : Fin 4) : (s.ableLanes r).isEmpty = true ↔ s.ableLanes r = [] :=
  List.isEmpty_iff

/-- A member lane of the ramp is locked out with CONFLICT (R64, R68). -/
theorem conflictLocked_iff (s : State) (r : Fin 4) :
    ((s.members r).any fun l => (s.lane l).state = .faultLocked .conflict) = true ↔
      ∃ l, (s.lane l).ramp = some r ∧ (s.lane l).state = .faultLocked .conflict := by
  simp [List.any_eq_true, mem_members]

/-- The bars of the model are the start conditions of R64, in their order. -/
theorem startBar_eq (s : State) (r : Fin 4) : s.startBar r = StartFails s r := by
  simp only [State.startBar, StartFails, conflictLocked_iff, ableLanes_isEmpty_iff, Option.isNone_iff_eq_none]

theorem startRamp_active {s : State} {r : Fin 4} {p : Fin 16} (h : (s.ramp r).ctl.active = some p) :
    s.startRamp r = s.enterMetering r (s.plan p).fields.rateStart := by
  simp only [State.startRamp, h]

/-- Settles O35: the conditions of R64, and the entry to METERING. -/
theorem rampStartStarts : Obligations.RampStartStarts := by
  refine fun s h => ⟨fun b hb => rampRequest_bad hb serveRampStart h, fun r => ?_⟩
  have hserved : ∀ {v : Served}, serveRampStart r s = v →
      exec (.rampStart (byteOf r)) s = .next (v.state.answered v.result v.reply) := fun hv => rampRequest_served r h hv
  refine ⟨fun hs => hserved (if_pos hs), fun e hs he => ?_, fun p hs hok hp hout => ?_⟩
  · exact hserved (v := refuse s e) (by simp only [serveRampStart, hs, startBar_eq, he]; rfl)
  · refine ⟨s.startRamp r, hserved (v := accept (s.startRamp r)) ?_, ?_⟩
    · simp only [serveRampStart, hs, startBar_eq, hok]; rfl
    · rw [startRamp_active hp]
      exact enterMetering_started hout _

/-! ## RAMP STOP -/

/-- Settles O36, by the state of the ramp. -/
theorem rampStopStops : Obligations.RampStopStops := by
  refine fun s h => ⟨fun b hb => rampRequest_bad hb serveRampStop h, fun r => ?_⟩
  have hserved : ∀ {v : Served}, serveRampStop r s = v →
      exec (.rampStop (byteOf r)) s = .next (v.state.answered v.result v.reply) := fun hv => rampRequest_served r h hv
  have hstops (hopen : s.rampState r ≠ .closed) :
      exec (.rampStop (byteOf r)) s = .next ((s.stopRamp r).answered .ok) := hserved (if_neg hopen)
  refine ⟨fun hs => hserved (if_pos hs), fun hs => ?_, fun hruns => ⟨s.stopRamp r, hstops ?_, stopRamp_stopped hruns⟩⟩
  · rw [hstops (by obtain hs | hs := hs <;> simp [hs]),
      stopRamp_still (not_rampRuns (by obtain hs | hs := hs <;> simp [hs]))]
  · obtain hs | hs := (rampRuns_iff s r).1 hruns <;> simp [hs]

/-! ## RAMP SUSPEND -/

/-- The record of a ramp at its entry to SUSPENDED (R75). -/
def Ramp.suspended (minutes : Nat) (x : Ramp) : Ramp :=
  { x with
    ctl := { x.ctl with
      state := .suspended, override := none, suspension := some { minutes := minutes, run := 0 }, onRun := 0, offRun := 0 }
    queue := { x.queue with stored := 0, spill := false, emptyTimer := 0, armed := false }
    sched := { x.sched with waiting := [], fresh := false } }

theorem enterSuspended_eq (s : State) (r : Fin 4) (minutes : Nat) :
    s.enterSuspended r minutes =
      (s.changeOver r ((s.ramp r).suspended minutes)).mapMembers r fun l =>
        if l.state = .redReady then l.enter .resting else l := rfl

theorem enterSuspended_recordsMove (s : State) (r : Fin 4) (minutes : Nat) :
    RecordsMove s (s.enterSuspended r minutes) :=
  (changeOver_recordsMove s r _).trans (mapMembers_recordsMove _ r _)

theorem enterSuspended_ramp (s : State) (r i : Fin 4) (minutes : Nat) :
    (s.enterSuspended r minutes).ramp i = if i = r then (s.ramp r).suspended minutes else s.ramp i := by
  rw [enterSuspended_eq, mapMembers_ramp, changeOver_ramp]

theorem enterSuspended_lane (s : State) (r : Fin 4) (minutes : Nat) (l : Fin 8) :
    (s.enterSuspended r minutes).lane l =
      if (s.lane l).ramp = some r ∧ (s.lane l).state = .redReady then (s.lane l).enter .resting else s.lane l := by
  rw [enterSuspended_eq, mapMembers_lane, changeOver_lane]
  by_cases hl : (s.lane l).ramp = some r <;> simp [hl]

theorem enterSuspended_chan (s : State) (r : Fin 4) (minutes : Nat) (c : Fin 32) :
    (s.enterSuspended r minutes).chan c = s.restartedChan r c := by
  rw [enterSuspended_eq, mapMembers_chan, changeOver_chan]

theorem redSuspectMember_iff (s : State) (r : Fin 4) :
    ((s.members r).any fun l => (s.lane l).redSuspect) = true ↔
      ∃ l, (s.lane l).ramp = some r ∧ (s.lane l).redSuspect = true := by
  simp [List.any_eq_true, mem_members]

theorem clampedIf_clampTo {lo hi : Nat} (h : lo ≤ hi) (x : Nat) :
    clampedIf (clampTo lo hi x ≠ x) = takenIf (lo ≤ x ∧ x ≤ hi) := by
  simp only [clampedIf_ne, clampTo_eq_self_iff h]

/-- Settles O37: the checks of R75 in their order, and the entry to SUSPENDED. -/
theorem rampSuspendRests : Obligations.RampSuspendRests := by
  refine fun s minutes h => ⟨fun b hb => rampRequest_bad hb _ h, fun r => ?_⟩
  have hserved : ∀ {v : Served}, serveRampSuspend minutes.toNat r s = v →
      exec (.rampSuspend (byteOf r) minutes) s = .next (v.state.answered v.result v.reply) :=
    fun hv => rampRequest_served r h hv
  refine ⟨fun hs => hserved (if_pos hs), fun hs hhold => ?_, fun hs hhold hred => ?_, fun hs hhold hred => ?_⟩
  · exact hserved (v := refuse s .tooSoon) (by simp [serveRampSuspend, hs, hhold])
  · exact hserved (v := refuse s .faultPending)
      (by simp only [serveRampSuspend, hs, hhold, redSuspectMember_iff, hred]; rfl)
  · have hclear : ¬ ∃ l, (s.lane l).ramp = some r ∧ (s.lane l).redSuspect = true := by
      rintro ⟨l, hl, hsus⟩
      exact Bool.false_ne_true ((hred l hl).symm.trans hsus)
    refine ⟨s.enterSuspended r (clampTo 1 120 minutes.toNat), ?_, enterSuspended_recordsMove s r _, fun i hi => ?_,
      ?_, enterSuspended_lane s r _,
      enterSuspended_chan s r _⟩
    · rw [← clampedIf_clampTo (show 1 ≤ 120 by decide)]
      exact hserved (v := acceptClamped (s.enterSuspended r (clampTo 1 120 minutes.toNat)) _)
        (by simp only [serveRampSuspend, hs, hhold, redSuspectMember_iff, hclear]; rfl)
    · rw [enterSuspended_ramp, if_neg hi]
    · rw [enterSuspended_ramp, if_pos rfl]; rfl

/-! ## RAMP RESUME and the suspension expiry -/

/-- The record of a ramp at its return to METERING, before its list is formed (R76, R77, R107). -/
def Ramp.resumed (x : Ramp) : Ramp :=
  { x with
    ctl := { x.ctl with
      state := .metering, suspension := none, holdOff := x.ctl.suspendHoldOff, holdOffRun := 0 }
    queue := { x.queue with stored := 0, spill := false, emptyTimer := 0, armed := true }
    sched := { x.sched with sinceGrant := x.rate.headway, fresh := true } }

theorem resumeRamp_eq (s : State) (r : Fin 4) :
    s.resumeRamp r =
      (((s.changeOver r (s.ramp r).resumed).mapMembers r fun l => if l.state = .resting then l.enter .amber else l)
        |>.lightMembers r).refreshCalls r := rfl

theorem resumeRamp_recordsMove (s : State) (r : Fin 4) : RecordsMove s (s.resumeRamp r) :=
  (((changeOver_recordsMove s r _).trans (mapMembers_recordsMove _ r _)).trans (mapMembers_recordsMove _ r _)).trans
    (setRamp_recordsMove _ r _)

theorem resumeRamp_ramp_self (s : State) (r : Fin 4) :
    (s.resumeRamp r).ramp r = (s.ramp r).resumed.reformed (s.resumeRamp r) r := by
  rw [resumeRamp_eq, refreshCalls_ramp_self, State.lightMembers, mapMembers_ramp, mapMembers_ramp, changeOver_ramp, if_pos rfl]

theorem resumeRamp_ramp_ne {s : State} {r i : Fin 4} (h : i ≠ r) : (s.resumeRamp r).ramp i = s.ramp i := by
  rw [resumeRamp_eq, refreshCalls_ramp_ne h, State.lightMembers, mapMembers_ramp, mapMembers_ramp, changeOver_ramp, if_neg h]

theorem resumeRamp_chan (s : State) (r : Fin 4) (c : Fin 32) : (s.resumeRamp r).chan c = s.restartedChan r c := by
  rw [resumeRamp_eq, refreshCalls_chan, State.lightMembers, mapMembers_chan, mapMembers_chan, changeOver_chan]

theorem resumeRamp_lane (s : State) (r : Fin 4) (l : Fin 8) :
    (s.resumeRamp r).lane l =
      if (s.lane l).ramp = some r ∧ (s.lane l).state = .resting then (s.lane l).enter .amber
      else if (s.lane l).ramp = some r ∧ (s.lane l).state = .dark ∧ (s.lane l).able = true then
        (s.lane l).enter (if s.lamp.present then .proving else .supplyOut)
      else s.lane l := by
  rw [resumeRamp_eq, refreshCalls_lane, State.lightMembers, mapMembers_lane, mapMembers_lane, changeOver_lane]
  by_cases hl : (s.lane l).ramp = some r
  · by_cases hs : (s.lane l).state = .resting
    · simp only [hl, hs, if_true, Lane.enter_ramp, Lane.light_eq, Lane.enter_state, reduceCtorEq, false_and, if_false, and_self]
    · simp only [hl, hs, if_true, if_false, Lane.light_eq, true_and]
      rfl
  · simp only [hl, if_false, false_and]

theorem exec_suspensionExpiry_eq (r : Fin 4) (s : State) :
    exec (.suspensionExpiry r) s =
      event (fun s => if s.rampState r = .suspended then s.resumeRamp r else s) s := rfl

/-- Settles O38: the request and the expiry share the return to METERING. -/
theorem resumeReturnsToMetering : Obligations.ResumeReturnsToMetering := by
  intro s r
  have hserved : ∀ {v : Served}, s.hears = true → serveRampResume r s = v →
      exec (.rampResume (byteOf r)) s = .next (v.state.answered v.result v.reply) := fun h hv => rampRequest_served r h hv
  refine ⟨fun h hs => hserved h (if_neg hs), fun b h hb => rampRequest_bad hb serveRampResume h, fun hreset hs => ?_,
    fun h => ?_⟩
  · refine ⟨s.resumeRamp r, fun h => hserved h (v := accept (s.resumeRamp r)) (if_pos hs), ?_,
      resumeRamp_recordsMove s r, fun i hi => resumeRamp_ramp_ne hi,
      resumeRamp_ramp_self s r, resumeRamp_lane s r, resumeRamp_chan s r⟩
    rw [exec_suspensionExpiry_eq, event_running _ hreset, if_pos hs]
  · rw [exec_suspensionExpiry_eq]
    obtain h | h := h
    · exact event_resetting _ h
    · exact event_still (if_neg h)

/-! ## RAMP OVERRIDE, its end, and the end of the hold-off -/

theorem setOverride_eq (s : State) (r : Fin 4) (rate minutes : Nat) :
    s.setOverride r rate minutes = s.setRamp r { s.ramp r with
      ctl := { (s.ramp r).ctl with override := some { rate := rate, minutes := minutes, run := 0 } }
      rate := (s.ramp r).rate.atOverride rate
      sched := (s.ramp r).sched.handed (s.ramp r).rate.headway ((s.ramp r).rate.atOverride rate).headway } := by
  simp only [State.setOverride, State.modRamp_eq, handRate_eq]

theorem endOverride_eq (s : State) (r : Fin 4) :
    s.endOverride r = s.setRamp r { s.ramp r with ctl := { (s.ramp r).ctl with override := none } } := rfl

/-- Without an override standing its end changes nothing. -/
theorem endOverride_absent {s : State} {r : Fin 4} (h : (s.ramp r).ctl.override = none) : s.endOverride r = s := by
  rw [endOverride_eq, ← h]
  exact State.setRamp_self s r

theorem exec_holdOffEnd_eq (r : Fin 4) (s : State) :
    exec (.holdOffEnd r) s =
      event (fun s =>
        if s.rampState r = .metering then s.modCtl r fun c => { c with holdOff := 0, holdOffRun := 0 } else s) s := rfl

theorem exec_overrideExpiry_eq (r : Fin 4) (s : State) :
    exec (.overrideExpiry r) s = event (fun s => s.endOverride r) s := rfl

/-- Settles O39: the requests, and then the two expiries. -/
theorem overrideAndHoldOff : Obligations.OverrideAndHoldOff := by
  intro s r rate minutes
  refine ⟨fun h => ?_, fun hreset => ⟨?_, fun hs => ?_⟩, fun h => ?_, fun h => ?_⟩
  · have hserved : ∀ {v : Served}, serveRampOverride rate.toNat minutes.toNat r s = v →
        exec (.rampOverride (byteOf r) rate minutes) s = .next (v.state.answered v.result v.reply) :=
      fun hv => rampRequest_served r h hv
    refine ⟨fun hs => hserved (if_pos hs), fun hs hstage => ?_, fun hs hstage => ?_, ?_, fun b hb =>
      ⟨rampRequest_bad hb _ h, rampRequest_bad hb _ h⟩⟩
    · exact hserved (v := refuse s .supervision) (by simp [serveRampOverride, hs, hstage])
    · dsimp only
      have htaken : serveRampOverride rate.toNat minutes.toNat r s =
          acceptClamped (s.setOverride r (clampTo 60 3600 rate.toNat) (clampTo 1 240 minutes.toNat))
            (clampTo 60 3600 rate.toNat ≠ rate.toNat || clampTo 1 240 minutes.toNat ≠ minutes.toNat) := by
        simp [serveRampOverride, hs, hstage]
      rw [hserved htaken, acceptClamped_result, clampedIf_outOfRange (by decide) (by decide), acceptClamped_state,
        setOverride_eq]
      rfl
    · exact rampRequest_served r h (v := accept (s.endOverride r)) rfl
  · rw [exec_overrideExpiry_eq, event_running _ hreset, endOverride_eq]
  · rw [exec_holdOffEnd_eq, event_running _ hreset, if_pos hs, State.modCtl_eq]
  · rw [exec_holdOffEnd_eq]
    obtain h | h := h
    · exact event_resetting _ h
    · exact event_still (if_neg h)
  · rw [exec_overrideExpiry_eq]
    obtain h | h := h
    · exact event_resetting _ h
    · exact event_still (endOverride_absent h)

end Sys2Proof.Machine

/-! # Automatic activation at an interval close -/

namespace Sys2Proof.Machine

/-! ## What steps 1 to 5 leave for step 6 -/

section Measured
variable (s : State) (r : Fin 4)

/-- The Ramp Control part after steps 1 to 5: its state, its mode and its run counters stand. -/
theorem closeMeasured_ctl :
    ((s.closeMeasured r).ramp r).ctl.state = s.rampState r
    ∧ ((s.closeMeasured r).ramp r).ctl.mode = (s.ramp r).ctl.mode
    ∧ ((s.closeMeasured r).ramp r).ctl.onRun = (s.ramp r).ctl.onRun
    ∧ ((s.closeMeasured r).ramp r).ctl.offRun = (s.ramp r).ctl.offRun := by
  obtain ⟨hctl, -, -⟩ := meterClose_ctl (((s.afterLatch r).formStation r).applyPending r) r
  rw [closeMeasured_afterLatch, hctl, measured_ramp]
  exact ⟨rfl, rfl, rfl, rfl⟩

theorem closeMeasured_ramp_ne {i : Fin 4} (h : i ≠ r) :
    ((s.closeMeasured r).ramp i) = s.ramp i := by
  rw [closeMeasured_afterLatch, meterClose_ramp_ne h]
  simp [applyPending_ramp, formStation_ramp, afterLatch_ramp, h]

@[simp] theorem closeMeasured_rampState : (s.closeMeasured r).rampState = s.rampState := by
  funext i
  by_cases hi : i = r
  · rw [hi]; exact (closeMeasured_ctl s r).1
  · rw [State.rampState, closeMeasured_ramp_ne s r hi]; rfl

@[simp] theorem closeMeasured_lane : (s.closeMeasured r).lane = s.lane := State.lane_congr (by rw [closeMeasured_eq])

@[simp] theorem closeMeasured_plan : (s.closeMeasured r).plan = s.plan := State.plan_congr (by rw [closeMeasured_eq])

@[simp] theorem closeMeasured_unit : (s.closeMeasured r).unit = s.unit := by rw [closeMeasured_eq]

theorem closeMeasured_effectiveMode : (s.closeMeasured r).effectiveMode r = s.effectiveMode r := by
  obtain ⟨-, hmode, -⟩ := closeMeasured_ctl s r
  simp only [effectiveMode_eq, hmode, closeMeasured_sup]

theorem meterClose_stored : ((s.meterClose r).ramp r).queue.stored = (s.ramp r).queue.stored := by
  unfold State.meterClose
  split
  · rw [State.computeRate, State.modRamp_eq, State.setRamp_ramp_self, handRate_queue, evaluateSpill_ramp]
  · rfl

theorem closeMeasured_stored : ((s.closeMeasured r).ramp r).queue.stored = (s.ramp r).queue.stored := by
  rw [closeMeasured_afterLatch, meterClose_stored, measured_ramp]

end Measured

/-! ## Step 6 -/

theorem setRuns_eq (s : State) (r : Fin 4) (onRun offRun : Nat) :
    s.setRuns r onRun offRun =
      s.setRamp r { s.ramp r with ctl := { (s.ramp r).ctl with onRun := onRun, offRun := offRun } } := rfl

section Auto
variable {s : State} {r : Fin 4} (hauto : s.effectiveMode r = .auto)
include hauto

theorem activate_standby {p : Fin 16} (h : s.rampState r = .standby) (hp : (s.ramp r).ctl.active = some p) :
    s.activate r = s.automaticStart r (s.plan p).fields := by
  simp only [State.activate, hauto, if_true, h, hp]

theorem activate_metering {p : Fin 16} (h : s.rampState r = .metering) (hp : (s.ramp r).ctl.active = some p) :
    s.activate r = s.automaticStop r (s.plan p).fields := by
  simp only [State.activate, hauto, if_true, h, hp]

/-- Without a plan, and in the states that neither start nor stop by themselves, the run counters are held at 0 (R70, R71). -/
theorem activate_elsewhere (h : s.rampState r = .standby ∨ s.rampState r = .metering → (s.ramp r).ctl.active = none) :
    s.activate r = s.setRuns r 0 0 := by
  simp only [State.activate, hauto, if_true]
  split
  · next hs hp => simp [hs, hp] at h
  · next hs hp => simp [hs, hp] at h
  · rfl

end Auto

section Attempts
variable {s : State} {r : Fin 4} {p : PlanFields} {n : Nat}

/-- The start test met raises the on-run, and not met makes it 0 (R70). -/
theorem automaticStart_eq (hn : n = if (s.ramp r).station.valid = true ∧ p.onOcc ≤ (s.ramp r).station.occupancy then
      (s.ramp r).ctl.onRun + 1 else 0) :
    s.automaticStart r p =
      if p.onCount ≤ n then
        if (s.startBar r).isNone && !s.unit.restartPending then raise .autoChange .ramp r.val 1 (s.startRamp r)
        else s.setRuns r 0 0
      else s.setRuns r n 0 := by
  simp only [State.automaticStart, Station.startTest, Bool.and_eq_true, decide_eq_true_eq, hn]

/-- The stop test met raises the off-run, and not met makes it 0 (R71). -/
theorem automaticStop_eq (hn : n = if (s.ramp r).station.valid = true ∧ (s.ramp r).station.occupancy ≤ p.offOcc
      ∧ (s.ramp r).queue.stored ≤ p.offQueue then (s.ramp r).ctl.offRun + 1 else 0) :
    s.automaticStop r p =
      if p.offCount ≤ n then raise .autoChange .ramp r.val 2 (s.stopRamp r) else s.setRuns r 0 n := by
  simp only [State.automaticStop, Station.stopTest, Bool.and_eq_true, decide_eq_true_eq, hn, and_assoc]

end Attempts

/-- A report raised after a change of channels, ramps and lanes is the onset in the register as it stood before. -/
theorem raise_of_recordsMove {s t : State} (h : RecordsMove s t) (k : FaultKind) (o : ObjectClass) (i d : Nat) :
    raise k o i d t =
      { t with faults := s.faults.onset { kind := k, object := o, index := i, detail := d, uptime := s.unit.uptime } } := by
  have hfaults : t.faults = s.faults := by rw [h]
  have hunit : t.unit = s.unit := by rw [h]
  rw [raise, hfaults, hunit]

theorem closeMeasured_everyLaneOut (s : State) (r i : Fin 4) :
    EveryLaneOut (s.closeMeasured r) i ↔ EveryLaneOut s i := everyLaneOut_congr (closeMeasured_lane s r) i

/-- Settles O44: step 6 on what steps 1 to 5 leave, by the state of the ramp. -/
theorem automaticActivation : Obligations.AutomaticActivation := by
  intro s r hreset hopen hauto
  have hmode : (s.closeMeasured r).effectiveMode r = .auto := (closeMeasured_effectiveMode s r).trans hauto
  obtain ⟨-, -, hon, hoff⟩ := closeMeasured_ctl s r
  have hstored := closeMeasured_stored s r
  have hstate := congrFun (closeMeasured_rampState s r) r
  have hplan := closeMeasured_plan s r
  have hunit := closeMeasured_unit s r
  have hout := closeMeasured_everyLaneOut s r r
  dsimp only
  rw [exec_intervalClose hreset hopen, closeInterval_eq]
  simp only [← hon, ← hoff, ← hstored, ← hstate, ← hplan, ← hunit, ← hout]
  generalize s.closeMeasured r = m at hmode ⊢
  simp only [Host.Outcome.next.injEq, ← setRuns_eq]
  refine ⟨activate_elsewhere hmode, fun p hs hp => ?_, fun p hs hp => ?_⟩
  · rw [activate_standby hmode hs hp, automaticStart_eq rfl, startBar_eq]
    refine ⟨fun hlt => if_neg (Nat.not_le.2 hlt), fun hle hfails => ?_, fun hle hok hrestart hlanes => ?_⟩
    · rw [if_pos hle, if_neg]
      obtain hfails | hfails := hfails <;> simp [hfails]
    · have hstarts := startRamp_active hp
      refine ⟨m.startRamp r, hstarts ▸ enterMetering_started hlanes _, ?_⟩
      rw [if_pos hle, if_pos (by simp [hok, hrestart])]
      exact raise_of_recordsMove (hstarts ▸ enterMetering_recordsMove m r _) _ _ _ _
  · rw [activate_metering hmode hs hp, automaticStop_eq rfl]
    refine ⟨fun hlt => if_neg (Nat.not_le.2 hlt), fun hle => ⟨m.stopRamp r, ?_, ?_⟩⟩
    · exact stopRamp_stopped ((rampRuns_iff m r).2 (.inl hs))
    · rw [if_pos hle]
      exact raise_of_recordsMove (stopRamp_recordsMove m r) _ _ _ _

end Sys2Proof.Machine

/-! # What every step keeps of the display, the waiting lists and metering

The display is sound lane by lane, given the supply and the states of the ramps; a waiting list and a metering ramp are sound
ramp by ramp. A change of a lane or a channel may leave the ramps that have yet to hear of it unsound: the lists and the
metering are then sound but for those ramps, and each hearing takes one ramp off that set. -/

namespace Sys2Proof.Machine

/-! ## The display, lane by lane -/

/-- What the display keeps of every lane, also of one that is about to be stopped: only a bound lane leaves DARK, it is lit or
proving with the supply alone, what is not out is in service on a ramp in operation, and only red is suspect. -/
structure Lane.Lights (present : Bool) (state : Fin 4 → RampState) (x : Lane) : Prop where
  bound : x.state ≠ .dark → x.ramp.isSome = true
  supplied : x.isLit = true ∨ x.state = .proving → present = true
  service : x.isOut = false → x.inService = true ∧ ∀ r, x.ramp = some r → (state r).isUp = true
  suspect : x.redSuspect = true → x.isRed = true

/-- The lane's share of `State.DisplaySound`. -/
structure Lane.Shown (present : Bool) (state : Fin 4 → RampState) (x : Lane) : Prop extends x.Lights present state where
  serves : x.state.serves = true → x.able = true ∧ ∀ r, x.ramp = some r → state r = .metering ∨ state r = .suspended
  ready : x.state = .redReady → ∀ r, x.ramp = some r → state r = .metering
  rests : x.state = .resting → ∀ r, x.ramp = some r → state r = .suspended

theorem displaySound_iff (s : State) : s.DisplaySound ↔ ∀ l, (s.lane l).Shown s.lamp.present s.rampState := by
  refine forall_congr' fun l => ?_
  simp only [rampRuns_iff]
  exact ⟨fun ⟨hbound, hsupplied, hservice, hserves, hready, hrests, hsuspect⟩ =>
      ⟨⟨hbound, hsupplied, hservice, hsuspect⟩, hserves, hready, hrests⟩,
    fun h => ⟨h.bound, h.supplied, h.service, h.serves, h.ready, h.rests, h.suspect⟩⟩

namespace Lane
variable {x : Lane} {present present' : Bool} {state state' : Fin 4 → RampState}

/-- A lane that is out asks nothing of the supply or of its ramp. -/
theorem shown_of_out (hout : x.isOut = true) (hbound : x.state ≠ .dark → x.ramp.isSome = true)
    (hsuspect : x.redSuspect = true → x.isRed = true) : x.Shown present state := by
  have hcases := (isOut_iff x).1 hout
  rw [Lane.isLocked_iff] at hcases
  refine ⟨⟨hbound, ?_, by simp [hout], hsuspect⟩, ?_, ?_, ?_⟩ <;>
    obtain hs | ⟨cause, hs⟩ := hcases <;> simp [Lane.isLit, LaneState.aspect, LaneState.serves, hs]

theorem Lights.shown_of_out (h : x.Lights present state) (hout : x.isOut = true) : x.Shown present' state' :=
  Lane.shown_of_out hout h.bound h.suspect

/-- A lane on the display goes with the state of its ramp alone. -/
theorem Shown.of_states (h : x.Shown present state) (hr : ∀ r, x.ramp = some r → state' r = state r) :
    x.Shown present state' where
  bound := h.bound
  supplied := h.supplied
  service hout := ⟨(h.service hout).1, fun r hb => hr r hb ▸ (h.service hout).2 r hb⟩
  suspect := h.suspect
  serves hs := ⟨(h.serves hs).1, fun r hb => hr r hb ▸ (h.serves hs).2 r hb⟩
  ready hs r hb := (hr r hb).trans (h.ready hs r hb)
  rests hs r hb := (hr r hb).trans (h.rests hs r hb)

/-- A lane of a ramp that is not in operation is out. -/
theorem Lights.isOut (h : x.Lights present state) {r : Fin 4} (hb : x.ramp = some r) (hdown : (state r).isUp = false) :
    x.isOut = true := by
  cases hout : x.isOut with
  | true => rfl
  | false => exact absurd ((h.service hout).2 r hb) (by simp [hdown])

theorem enter_dark_shown (x : Lane) : (x.enter .dark).Shown present state :=
  shown_of_out rfl (by simp) (by simp [Lane.enter, LaneState.aspect])

theorem enter_locked_shown (cause : LockCause) (h : x.ramp.isSome = true) :
    (x.enter (.faultLocked cause)).Shown present state :=
  shown_of_out rfl (fun _ => h) (by simp [Lane.enter, LaneState.aspect])

/-- A lane of a ramp in operation enters a state of the display. -/
theorem enter_shown {st : LaneState} (hbound : x.ramp.isSome = true) (hin : x.inService = true)
    (hup : ∀ r, x.ramp = some r → (state r).isUp = true) (hnot : (x.enter st).isOut = false)
    (hsupply : (x.enter st).isLit = true ∨ st = .proving → present = true)
    (hserves : st.serves = true → x.leaving = false ∧ ∀ r, x.ramp = some r → state r = .metering ∨ state r = .suspended)
    (hready : st = .redReady → ∀ r, x.ramp = some r → state r = .metering)
    (hrests : st = .resting → ∀ r, x.ramp = some r → state r = .suspended) : (x.enter st).Shown present state := by
  obtain ⟨hleaving, hservice⟩ := Lane.enter_not_out x hnot
  refine ⟨⟨fun _ => hbound, hsupply, fun _ => ⟨hservice.trans hin, hup⟩, fun hs => ?_⟩, fun hs => ⟨?_, (hserves hs).2⟩,
    hready, hrests⟩
  · simp only [Lane.enter, Bool.and_eq_true] at hs
    exact hs.2
  · have hlocked : (x.enter st).isLocked = false := by
      rw [← Bool.not_eq_true]
      exact fun hl => by simp [Lane.isOut, hl] at hnot
    simp [Lane.able, hbound, hservice, hin, hleaving, (hserves hs).1, hlocked]

/-- A lane on the display goes on to another state of the display. -/
theorem Lights.move (h : x.Lights present state) {st : LaneState} (hout : x.isOut = false) (hnot : (x.enter st).isOut = false)
    (hsupply : (x.enter st).isLit = true ∨ st = .proving → present' = true)
    (hserves : st.serves = true → x.leaving = false ∧ ∀ r, x.ramp = some r → state r = .metering ∨ state r = .suspended)
    (hready : st = .redReady → ∀ r, x.ramp = some r → state r = .metering)
    (hrests : st = .resting → ∀ r, x.ramp = some r → state r = .suspended) : (x.enter st).Shown present' state := by
  have hdark : x.state ≠ .dark := fun hs => by simp [Lane.isOut, hs] at hout
  obtain ⟨hin, hup⟩ := h.service hout
  exact enter_shown (h.bound hdark) hin hup hnot hsupply hserves hready hrests

/-- The stop path ends out of the display or in a state that any ramp in operation may show (R123). -/
theorem Lights.stopPath (h : x.Lights present state) : x.stopPath.Shown present state := by
  have hflush (hlit : x.isLit = true) (hout : x.isOut = false) : (x.enter .flush).Shown present state :=
    h.move hout rfl (fun _ => h.supplied (.inl hlit)) nofun nofun nofun
  unfold Lane.stopPath
  split
  case h_1 | h_2 | h_3 => exact enter_dark_shown x
  case h_4 hs | h_5 hs | h_6 hs =>
    exact hflush (by simp [Lane.isLit, LaneState.aspect, hs]) (by simp [Lane.isOut, Lane.isLocked, hs])
  case h_7 hs | h_11 hs => exact h.shown_of_out (by simp [Lane.isOut, Lane.isLocked, hs])
  case h_8 hs | h_9 hs | h_10 hs => exact ⟨h, by simp [hs, LaneState.serves], by simp [hs], by simp [hs]⟩

/-- A DARK and able lane of a ramp that runs lights (R115). -/
theorem Shown.light (h : x.Shown present state)
    (hruns : ∀ r, x.ramp = some r → state r = .metering ∨ state r = .suspended) : (x.light present).Shown present state := by
  rw [Lane.light_eq]
  split
  · next hlit =>
    obtain ⟨-, hable⟩ := hlit
    simp only [Lane.able, Bool.and_eq_true, Bool.not_eq_true'] at hable
    obtain ⟨⟨⟨hbound, hin⟩, hstay⟩, -⟩ := hable
    have hup : ∀ r, x.ramp = some r → (state r).isUp = true := fun r hb => by
      obtain hs | hs := hruns r hb <;> simp [hs, RampState.isUp]
    cases hp : present with
    | true => exact enter_shown hbound hin hup rfl (fun _ => rfl) (fun _ => ⟨hstay, hruns⟩) nofun nofun
    | false =>
      exact enter_shown hbound hin hup rfl (by simp [Lane.isLit, LaneState.aspect]) (fun _ => ⟨hstay, hruns⟩) nofun nofun
  · exact h

end Lane

/-! ## The display as a whole -/

/-- What the display, the lists and metering read of a lane. -/
def Lane.outline (x : Lane) : LaneState × Option (Fin 4) × Bool × Bool × Bool × LaneTimings :=
  (x.state, x.ramp, x.inService, x.leaving, x.redSuspect, x.timings)

/-- The record `y` differs from `x` in nothing that the display, the lists or metering read. -/
def Lane.Alike (x y : Lane) : Prop := y.outline = x.outline

theorem Lane.Alike.parts {x y : Lane} (h : x.Alike y) :
    y.state = x.state ∧ y.ramp = x.ramp ∧ y.inService = x.inService ∧ y.leaving = x.leaving ∧ y.redSuspect = x.redSuspect
      ∧ y.timings = x.timings := by
  simpa only [Lane.Alike, Lane.outline, Prod.mk.injEq] using h

theorem Lane.Alike.shown {x y : Lane} {present : Bool} {state : Fin 4 → RampState} (h : x.Alike y)
    (hx : x.Shown present state) : y.Shown present state := by
  obtain ⟨hstate, hramp, hin, hleaving, hsuspect, -⟩ := h.parts
  have hlocked : y.isLocked = x.isLocked := by simp only [Lane.isLocked, hstate]
  have hout : y.isOut = x.isOut := by simp only [Lane.isOut, hstate, hlocked]
  have hlit : y.isLit = x.isLit := by simp only [Lane.isLit, hstate]
  have hred : y.isRed = x.isRed := by simp only [Lane.isRed, hstate]
  have hable : y.able = x.able := by simp only [Lane.able, hramp, hin, hleaving, hlocked]
  obtain ⟨⟨hbound, hsupplied, hservice, hred'⟩, hserves, hready, hrests⟩ := hx
  rw [← hstate] at hbound hsupplied hserves hready hrests
  rw [← hramp] at hbound hservice hserves hready hrests
  rw [← hlit] at hsupplied
  rw [← hout, ← hin] at hservice
  rw [← hable] at hserves
  rw [← hred, ← hsuspect] at hred'
  exact ⟨⟨hbound, hsupplied, hservice, hred'⟩, hserves, hready, hrests⟩

theorem displaySound_alike {s t : State} (h : s.DisplaySound) (hpresent : t.lamp.present = s.lamp.present)
    (hstate : t.rampState = s.rampState) (hlane : ∀ l, (s.lane l).Alike (t.lane l)) : t.DisplaySound := by
  rw [displaySound_iff] at h ⊢
  exact fun l => hpresent ▸ hstate ▸ (hlane l).shown (h l)

theorem setLane_display {s : State} {l : Fin 8} {x : Lane} (h : s.DisplaySound) (hx : x.Shown s.lamp.present s.rampState) :
    (s.setLane l x).DisplaySound := by
  rw [displaySound_iff] at h ⊢
  intro i
  rw [State.setLane_lane]
  split <;> [exact hx; exact h i]

theorem enterStopping_display {s : State} (h : s.DisplaySound) (r : Fin 4) : (s.enterStopping r).DisplaySound := by
  rw [displaySound_iff] at h ⊢
  rw [(enterStopping_recordsMove s r).lamp]
  have hself : (s.enterStopping r).rampState r = .stopping := by rw [State.rampState, enterStopping_ramp, if_pos rfl]
  have hother {i : Fin 4} (hi : i ≠ r) : (s.enterStopping r).rampState i = s.rampState i := by
    rw [State.rampState, enterStopping_ramp, if_neg hi]; rfl
  intro l
  rw [enterStopping_lane]
  split
  · next hl =>
    refine Lane.Lights.stopPath ⟨(h l).bound, (h l).supplied, fun hout => ⟨((h l).service hout).1, fun i hi => ?_⟩,
      (h l).suspect⟩
    obtain rfl : r = i := Option.some.inj (hl.symm.trans hi)
    rw [hself]; rfl
  · next hl => exact (h l).of_states fun i hi => hother fun e => hl (e ▸ hi)

theorem enterStandby_display {s : State} {r : Fin 4} (h : s.DisplaySound) (hout : EveryLaneOut s r) :
    (s.enterStandby r).DisplaySound := by
  rw [displaySound_iff] at h ⊢
  intro l
  rw [enterStandby_lane]
  by_cases hl : (s.lane l).ramp = some r
  · exact (h l).shown_of_out (hout l hl)
  · rw [(enterStandby_recordsMove s r).lamp]
    refine (h l).of_states fun i hi => ?_
    have hir : i ≠ r := fun e => hl (e ▸ hi)
    rw [State.rampState, enterStandby_ramp, if_neg hir]; rfl

theorem standbyIfOut_display {s : State} (h : s.DisplaySound) (r : Fin 4) : (s.standbyIfOut r).DisplaySound := by
  unfold State.standbyIfOut
  split
  · next hc => exact enterStandby_display h ((allOut_iff s r).1 (Bool.and_eq_true_iff.1 hc).2)
  · exact h

theorem stopRamp_display {s : State} (h : s.DisplaySound) (r : Fin 4) : (s.stopRamp r).DisplaySound := by
  unfold State.stopRamp
  split <;> [exact standbyIfOut_display (enterStopping_display h r) r; exact h]

theorem refreshRamp_display {s : State} (h : s.DisplaySound) (r : Fin 4) : (s.refreshRamp r).DisplaySound := by
  have hheard : (s.heard r).DisplaySound := displaySound_alike h rfl (heard_rampState s r) fun _ => rfl
  rw [refreshRamp_eq]
  refine standbyIfOut_display ?_ r
  unfold State.stopIfUnable
  split <;> [exact stopRamp_display hheard r; exact hheard]

theorem refreshOf_display {s : State} (h : s.DisplaySound) (b : Option (Fin 4)) : (s.refreshOf b).DisplaySound := by
  cases b with
  | none => exact h
  | some r => exact refreshRamp_display h r

theorem foldl_display {f : State → Fin 4 → State} (hf : ∀ (s : State) (r : Fin 4), s.DisplaySound → (f s r).DisplaySound)
    (rs : List (Fin 4)) {s : State} (h : s.DisplaySound) : (rs.foldl f s).DisplaySound := by
  induction rs generalizing s with
  | nil => exact h
  | cons r rs ih => exact ih (hf s r h)

end Sys2Proof.Machine

/-! # The waiting lists through a change -/

namespace Sys2Proof.Machine

/-! ## What a list reads -/

theorem demand_of_presence {s t : State} (h : SamePresence s t) : t.demand = s.demand := by
  have hduty : ∀ c, (t.chan c).duty = (s.chan c).duty := fun c => (h c).1
  have hocc : ∀ c, (t.chan c).occupied = (s.chan c).occupied := fun c => (h c).2.2
  have hactive : ∀ c, (t.chan c).isActive = (s.chan c).isActive := fun c => by simp only [Channel.isActive, (h c).2.1]
  have hfaulted : ∀ c, (t.chan c).isFaulted = (s.chan c).isFaulted := fun c => by simp only [Channel.isFaulted, (h c).2.1]
  funext l; simp only [State.demand, State.someActive, hduty, hocc, hactive, hfaulted]

/-- The demand of a lane reads of a channel only that it is a DEMAND channel of the lane and shows its presence. -/
theorem demand_of_others {s t : State} {l : Fin 8} (h : ∀ c, t.chan c = s.chan c
    ∨ ((t.chan c).duty ≠ .demand l ∧ (s.chan c).duty ≠ .demand l)) : t.demand l = s.demand l := by
  have heach (f : Channel → Bool) (c : Fin 32) :
      ((t.chan c).duty = .demand l && f (t.chan c)) = ((s.chan c).duty = .demand l && f (s.chan c)) := by
    obtain hc | ⟨ht, hs⟩ := h c
    · rw [hc]
    · simp [ht, hs]
  simp only [State.demand, State.someActive, Bool.and_assoc]
  rw [funext (heach Channel.isFaulted), funext (heach Channel.isActive),
    funext (heach fun x => x.isActive && x.occupied)]

/-- The lane would be on the list of `r` if the ramp metered and it had demand (R101, R102). -/
def Lane.ReadyFor (r : Fin 4) (x : Lane) : Prop := x.ramp = some r ∧ x.state = .redReady ∧ x.redSuspect = false

theorem calls_iff_readyFor (s : State) (r : Fin 4) (l : Fin 8) :
    s.calls r l = true ↔ s.rampState r = .metering ∧ (s.lane l).ReadyFor r ∧ s.demand l = true := by
  rw [calls_iff]; simp only [Lane.ReadyFor, and_assoc]

theorem calls_congr_at {s t : State} {r : Fin 4} (hs : t.rampState r = .metering ↔ s.rampState r = .metering)
    (hl : ∀ l, (t.lane l).ReadyFor r ↔ (s.lane l).ReadyFor r) (hd : ∀ l, (s.lane l).ramp = some r → t.demand l = s.demand l) :
    t.calls r = s.calls r := by
  funext l
  rw [Bool.eq_iff_iff, calls_iff_readyFor, calls_iff_readyFor, hs, hl]
  refine and_congr_right fun _ => and_congr_right fun h => ?_
  rw [hd l h.1]

theorem calls_of_presence {s t : State} {r : Fin 4} (hs : t.rampState r = .metering ↔ s.rampState r = .metering)
    (hl : t.lane = s.lane) (hc : SamePresence s t) : t.calls r = s.calls r :=
  calls_congr_at hs (by simp [hl]) fun l _ => by rw [demand_of_presence hc]

theorem calls_idle {s : State} {r : Fin 4} (h : s.rampState r ≠ .metering) (l : Fin 8) : s.calls r l = false := by
  simp [State.calls, h]

theorem Lane.Alike.readyFor {x y : Lane} (h : x.Alike y) (r : Fin 4) : y.ReadyFor r ↔ x.ReadyFor r := by
  obtain ⟨hstate, hramp, -, -, hsuspect, -⟩ := h.parts
  simp only [Lane.ReadyFor, hstate, hramp, hsuspect]

/-! ## Sound lists, but for some ramps -/

/-- The waiting lists are sound but for the ramps of `p`, which have yet to hear of a change: theirs are without repeats. -/
def State.ListsBut (s : State) (p : Fin 4 → Prop) : Prop :=
  ∀ r, (s.ramp r).sched.waiting.Nodup ∧ (p r ∨ ∀ l, l ∈ (s.ramp r).sched.waiting ↔ s.calls r l = true)

/-- Ramp `r` keeps its list, and it is called for as before. -/
def State.Steady (s t : State) (r : Fin 4) : Prop :=
  (t.ramp r).sched.waiting = (s.ramp r).sched.waiting ∧ t.calls r = s.calls r

/-- The list of ramp `r` is empty, and no lane is called to it. -/
def State.Uncalled (t : State) (r : Fin 4) : Prop := (t.ramp r).sched.waiting = [] ∧ ∀ l, t.calls r l = false

theorem waitingSound_iff (s : State) : s.WaitingSound ↔ s.ListsBut fun _ => False := by
  simp only [State.WaitingSound, State.ListsBut, false_or]

theorem State.Uncalled.listed {t : State} {r : Fin 4} (h : t.Uncalled r) :
    (t.ramp r).sched.waiting.Nodup ∧ ∀ l, l ∈ (t.ramp r).sched.waiting ↔ t.calls r l = true := by
  obtain ⟨hempty, hcalls⟩ := h
  simp [hempty, hcalls]

theorem uncalled_waitingSound {t : State} (h : ∀ r, t.Uncalled r) : t.WaitingSound := fun r => (h r).listed

namespace State.ListsBut
variable {s t : State} {p q : Fin 4 → Prop}

theorem mono (h : s.ListsBut p) (hpq : ∀ r, p r → q r) : s.ListsBut q := fun r => ⟨(h r).1, (h r).2.imp_left (hpq r)⟩

/-- A ramp that keeps its list and its calls, or has none of either, is as sound as before. -/
theorem next (h : s.ListsBut p) (hr : ∀ r, s.Steady t r ∨ t.Uncalled r) : t.ListsBut p := by
  intro r
  obtain ⟨hlist, hcalls⟩ | hnone := hr r
  · rw [hlist, hcalls]; exact h r
  · exact ⟨hnone.listed.1, .inr hnone.listed.2⟩

/-- A change that leaves the lists alone can make unsound those of the ramps that are called for otherwise. -/
theorem spoil (h : s.ListsBut p) (hlist : ∀ r, (t.ramp r).sched.waiting = (s.ramp r).sched.waiting)
    (hcalls : ∀ r, q r ∨ (p r → q r) ∧ t.calls r = s.calls r) : t.ListsBut q := by
  intro r
  rw [hlist]
  refine ⟨(h r).1, (hcalls r).elim .inl fun ⟨hpq, hsame⟩ => ?_⟩
  rw [hsame]
  exact (h r).2.imp_left hpq

/-- A ramp that forms its list anew is sound. -/
theorem refreshCalls (h : s.ListsBut p) (r : Fin 4) : (s.refreshCalls r).ListsBut fun i => p i ∧ i ≠ r := by
  intro i
  rw [refreshCalls_calls]
  by_cases hi : i = r
  · subst hi
    rw [refreshCalls_eq, State.setRamp_ramp_self]
    exact ⟨newList_nodup (h i).1, .inr (mem_newList s i)⟩
  · rw [refreshCalls_ramp_ne hi]
    exact ⟨(h i).1, (h i).2.imp_left (⟨·, hi⟩)⟩

end State.ListsBut

/-- A change of ramp `r` alone that keeps whether it meters and its list. -/
theorem setRamp_steady {s : State} {r : Fin 4} {x : Ramp} (hs : x.ctl.state = .metering ↔ s.rampState r = .metering)
    (hx : x.sched.waiting = (s.ramp r).sched.waiting) (i : Fin 4) : s.Steady (s.setRamp r x) i := by
  refine ⟨?_, calls_of_presence ?_ (State.setRamp_lane s r x) fun _ => ⟨rfl, rfl, rfl⟩⟩
  · rw [State.setRamp_ramp]; split
    · next e => rw [hx, e]
    · rfl
  · rw [State.rampState, State.setRamp_ramp]; split
    · next e => rw [hs, e]
    · exact Iff.rfl

/-! ## The shared operations -/

section Operations
variable {s : State} {p : Fin 4 → Prop}

theorem formCeiling_lists (h : s.ListsBut p) (r : Fin 4) : (s.formCeiling r).ListsBut p :=
  h.next fun i => .inl (setRamp_steady (s := s) (x := (s.ramp r).handRate _) Iff.rfl (handRate_waiting ..) i)

theorem heard_lists (h : s.ListsBut p) (r : Fin 4) : (s.heard r).ListsBut fun i => p i ∧ i ≠ r :=
  refreshCalls_formCeiling s r ▸ formCeiling_lists (h.refreshCalls r) r

theorem enterStopping_lists (h : s.ListsBut p) (r : Fin 4) : (s.enterStopping r).ListsBut p := by
  refine h.next fun i => ?_
  by_cases hi : i = r
  · refine .inr ⟨by simp [enterStopping_ramp, hi], calls_idle (by simp [State.rampState, enterStopping_ramp, hi])⟩
  · have hramp : (s.enterStopping r).ramp i = s.ramp i := by rw [enterStopping_ramp, if_neg hi]
    refine .inl ⟨by rw [hramp], calls_congr_at (by simp only [State.rampState, hramp]) (fun l => ?_) fun l _ => ?_⟩
    · rw [enterStopping_lane]
      split
      · next hl =>
        have hne : (s.lane l).ramp ≠ some i := by simpa [hl] using Ne.symm hi
        simp [Lane.ReadyFor, hne]
      · rfl
    · rw [demand_congr (enterStopping_chan s r)]

theorem enterStandby_lists (h : s.ListsBut p) {r : Fin 4} (hr : s.rampState r ≠ .metering) : (s.enterStandby r).ListsBut p := by
  refine h.next fun i => .inl ⟨?_, calls_of_presence ?_ (enterStandby_lane s r) fun c => ?_⟩
  · rw [enterStandby_ramp]; split
    · next e => rw [e]
    · rfl
  · rw [State.rampState, enterStandby_ramp]; split
    · next e => simp [e, hr]
    · rfl
  · rw [enterStandby_chan]; split <;> exact ⟨rfl, rfl, rfl⟩

theorem standbyIfOut_lists (h : s.ListsBut p) (r : Fin 4) : (s.standbyIfOut r).ListsBut p := by
  unfold State.standbyIfOut
  split
  · next hc =>
    simp only [Bool.and_eq_true, decide_eq_true_eq] at hc
    exact enterStandby_lists h (by simp [hc.1])
  · exact h

theorem stopRamp_lists (h : s.ListsBut p) (r : Fin 4) : (s.stopRamp r).ListsBut p := by
  unfold State.stopRamp
  split <;> [exact standbyIfOut_lists (enterStopping_lists h r) r; exact h]

theorem refreshRamp_lists (h : s.ListsBut p) (r : Fin 4) : (s.refreshRamp r).ListsBut fun i => p i ∧ i ≠ r := by
  rw [refreshRamp_eq]
  refine standbyIfOut_lists ?_ r
  unfold State.stopIfUnable
  split <;> [exact stopRamp_lists (heard_lists h r) r; exact heard_lists h r]

theorem refreshOf_lists (h : s.ListsBut p) (b : Option (Fin 4)) : (s.refreshOf b).ListsBut fun i => p i ∧ b ≠ some i := by
  cases b with
  | none => exact h.mono fun i hi => ⟨hi, nofun⟩
  | some r => exact (refreshRamp_lists h r).mono fun i hi => ⟨hi.1, fun e => hi.2 (Option.some.inj e).symm⟩

theorem formEntryDegraded_lists (h : s.ListsBut p) (r : Fin 4) : (s.formEntryDegraded r).ListsBut p :=
  h.next fun i => .inl (setRamp_steady (s := s) (r := r) (x := { s.ramp r with
    queue := { (s.ramp r).queue with entryDegraded := s.rampState r ≠ .closed && !s.someActive (.entry r) } }) Iff.rfl rfl i)

theorem hearChannel_lists (h : s.ListsBut p) (b : Option (Fin 4)) : (s.hearChannel b).ListsBut fun i => p i ∧ b ≠ some i := by
  cases b with
  | none => exact h.mono fun i hi => ⟨hi, nofun⟩
  | some r =>
    exact ((formEntryDegraded_lists h r).refreshCalls r).mono fun i hi => ⟨hi.1, fun e => hi.2 (Option.some.inj e).symm⟩

theorem foldl_lists {f : State → Fin 4 → State} {q : Fin 4 → Fin 4 → Prop}
    (hf : ∀ (s : State) (p : Fin 4 → Prop) (r : Fin 4), s.ListsBut p → (f s r).ListsBut fun i => p i ∧ q r i)
    (rs : List (Fin 4)) (h : s.ListsBut p) : (rs.foldl f s).ListsBut fun i => p i ∧ ∀ r ∈ rs, q r i := by
  induction rs generalizing s p with
  | nil => exact h.mono fun i hi => ⟨hi, by simp⟩
  | cons r rs ih =>
    refine (ih (hf s p r h)).mono fun i ⟨⟨hp, hr⟩, hrs⟩ => ⟨hp, ?_⟩
    exact List.forall_mem_cons.2 ⟨hr, hrs⟩

/-- Once every ramp has heard, every list is sound. -/
theorem refreshAll_waiting (h : s.ListsBut p) : s.refreshAll.WaitingSound :=
  (waitingSound_iff _).2 ((foldl_lists (fun _ _ r hp => refreshRamp_lists hp r) _ h).mono fun i hi =>
    hi.2 i (List.mem_finRange i) rfl)

theorem stopAll_waiting (h : s.WaitingSound) (rs : List (Fin 4)) : (rs.foldl State.stopRamp s).WaitingSound := by
  rw [waitingSound_iff] at h ⊢
  exact (foldl_lists (q := fun _ _ => True) (fun _ _ r hp => (stopRamp_lists hp r).mono fun _ hi => ⟨hi, trivial⟩) rs h).mono
    fun _ hi => hi.1

end Operations

/-! ## One record written, and the ramps that hear of it -/

section Written
variable {s : State}

/-- A lane written is read by the lists of the ramps it was and is bound to. -/
theorem setLane_lists (h : s.WaitingSound) (l : Fin 8) (x : Lane) :
    (s.setLane l x).ListsBut fun i => (s.lane l).ramp = some i ∨ x.ramp = some i := by
  refine ((waitingSound_iff s).1 h).spoil (fun _ => rfl) fun i => ?_
  by_cases hi : (s.lane l).ramp = some i ∨ x.ramp = some i
  · exact .inl hi
  · refine .inr ⟨False.elim, calls_congr_at Iff.rfl (fun j => ?_) fun _ _ => rfl⟩
    obtain ⟨hs, hx⟩ := not_or.1 hi
    rw [State.setLane_lane]; split
    · next e => simp [Lane.ReadyFor, e, hs, hx]
    · rfl

/-- A lane rewritten as it stood to the lists leaves them alone. -/
theorem setLane_waiting (h : s.WaitingSound) {l : Fin 8} {x : Lane} (hx : ∀ r, x.ReadyFor r ↔ (s.lane l).ReadyFor r) :
    (s.setLane l x).WaitingSound := by
  rw [waitingSound_iff] at h ⊢
  refine h.next fun i => .inl ⟨rfl, calls_congr_at Iff.rfl (fun j => ?_) fun _ _ => rfl⟩
  rw [State.setLane_lane]; split
  · next e => rw [hx, e]
  · rfl

theorem rewriteLane_waiting (h : s.WaitingSound) (l : Fin 8) (x : Lane) : (s.rewriteLane l x).WaitingSound := by
  refine (waitingSound_iff _).2 ((refreshOf_lists (refreshOf_lists (setLane_lists h l x) _) _).mono fun i hi => ?_)
  obtain ⟨⟨hp, hbefore⟩, hafter⟩ := hi
  have hx : x.ramp = some i := hp.resolve_left hbefore
  have hmoved : x.ramp ≠ (s.lane l).ramp := fun e => hbefore (e ▸ hx)
  rw [if_neg hmoved] at hafter
  exact hafter hx

theorem boundRamp_of_demand {c : Fin 32} {l : Fin 8} (h : (s.chan c).duty = .demand l) : s.boundRamp c = (s.lane l).ramp := by
  rw [State.boundRamp, h]; rfl

/-- A channel written is read by the lists of the ramps it served and serves. -/
theorem setChan_lists (h : s.WaitingSound) (c : Fin 32) (x : Channel) :
    (s.setChan c x).ListsBut fun i => s.boundRamp c = some i ∨ (s.setChan c x).boundRamp c = some i := by
  refine ((waitingSound_iff s).1 h).spoil (fun _ => rfl) fun i => ?_
  by_cases hi : s.boundRamp c = some i ∨ (s.setChan c x).boundRamp c = some i
  · exact .inl hi
  · refine .inr ⟨False.elim, calls_congr_at Iff.rfl (fun _ => Iff.rfl) fun l hl => demand_of_others fun j => ?_⟩
    obtain ⟨hs, ht⟩ := not_or.1 hi
    by_cases hj : j = c
    · subst hj
      exact .inr ⟨fun e => ht ((boundRamp_of_demand e).trans hl), fun e => hs ((boundRamp_of_demand e).trans hl)⟩
    · exact .inl (by rw [State.setChan_chan, if_neg hj])

theorem rewriteChannel_waiting (h : s.WaitingSound) (c : Fin 32) (x : Channel) : (s.rewriteChannel c x).WaitingSound :=
  (waitingSound_iff _).2 ((hearChannel_lists (hearChannel_lists (setChan_lists h c x) _) _).mono
    fun _ ⟨⟨hp, hbefore⟩, hafter⟩ => hp.elim hbefore hafter)

end Written

end Sys2Proof.Machine

/-! # Metering through a change -/

namespace Sys2Proof.Machine

/-! ## Metering, ramp by ramp -/

def Ramp.Runs (x : Ramp) : Prop := x.ctl.state = .metering ∨ x.ctl.state = .suspended

/-- What metering keeps of the record of a ramp on its own: while it runs, a plan and a rate of at least 94 with its headway;
and since-last-grant at the headway handed over last, at the moment of its entry to METERING. -/
structure Ramp.Charged (x : Ramp) : Prop where
  active : x.Runs → x.ctl.active.isSome = true
  rate : x.Runs → 94 ≤ x.rate.final ∧ x.rate.headway = ceilDiv 36000 x.rate.final
  fresh : x.sched.fresh = true → x.ctl.state = .metering ∧ x.sched.sinceGrant = x.rate.headway

/-- What metering keeps of a ramp with its lanes: no conflict among them while it runs. -/
def State.Unlocked (s : State) (r : Fin 4) : Prop :=
  (s.ramp r).Runs → ∀ l, (s.lane l).ramp = some r → (s.lane l).state ≠ .faultLocked .conflict

/-- The ceiling of the ramp is what its able lanes can serve, and while it runs its rate is not above it. -/
structure State.Capped (s : State) (r : Fin 4) : Prop where
  ceiling : (s.ramp r).rate.ceiling = s.ceilingOf r
  within : (s.ramp r).Runs → (s.ramp r).rate.final ≤ s.ceilingOf r

/-- Metering is sound but for the ramps of `p`, which have yet to hear of a change of their lanes. -/
def State.MeteringBut (s : State) (p : Fin 4 → Prop) : Prop :=
  (∀ l, (s.lane l).timings.InRange) ∧ ∀ r, (s.ramp r).Charged ∧ s.Unlocked r ∧ (p r ∨ s.Capped r)

theorem rampRuns_iff_runs (s : State) (r : Fin 4) : s.rampRuns r = true ↔ (s.ramp r).Runs := rampRuns_iff s r

theorem ceilingOf_unable {s : State} {r : Fin 4} (h : s.ableLanes r = []) : s.ceilingOf r = 0 := by
  simp [State.ceilingOf, h]

theorem meteringSound_iff (s : State) : s.MeteringSound ↔ s.MeteringBut fun _ => False := by
  simp only [State.MeteringSound, State.MeteringBut, State.MayMeter, rampRuns_iff_runs, false_or, mem_members]
  constructor
  · rintro ⟨htimings, hceiling, hruns, hfresh⟩
    refine ⟨htimings, fun r => ⟨⟨fun h => (hruns r h).1.1, fun h => ⟨(hruns r h).2.1, (hruns r h).2.2.2⟩, hfresh r⟩,
      fun h => (hruns r h).1.2.2, hceiling r, fun h => ?_⟩⟩
    rw [← hceiling]; exact (hruns r h).2.2.1
  · rintro ⟨htimings, hramp⟩
    refine ⟨htimings, fun r => (hramp r).2.2.ceiling, fun r h => ?_, fun r => (hramp r).1.fresh⟩
    obtain ⟨hcharged, hlocked, hcapped⟩ := hramp r
    obtain ⟨hleast, hheadway⟩ := hcharged.rate h
    have hwithin := hcapped.within h
    refine ⟨⟨hcharged.active h, fun hnone => ?_, hlocked h⟩, hleast, hcapped.ceiling ▸ hwithin, hheadway⟩
    rw [ceilingOf_unable hnone] at hwithin
    omega

/-! ## What the ceiling reads of a lane -/

theorem Lane.capacity_of_timings {x y : Lane} (h : y.timings = x.timings) : y.capacity = x.capacity := by
  show 36000 / (y.timings.green + y.timings.amber + y.timings.minRed) = _
  rw [h]; rfl

/-- The longest cycle of a lane is 38 s, so a lane serves at least 94 (R82). -/
theorem Lane.capacity_least {x : Lane} (h : x.timings.InRange) : 94 ≤ x.capacity := by
  obtain ⟨⟨hgreen, hgreen'⟩, ⟨-, hamber⟩, ⟨-, hred⟩, -⟩ := h
  have hcycle : x.cycle ≤ 380 := by
    show x.timings.green + x.timings.amber + x.timings.minRed ≤ 380
    omega
  have hpos : 0 < x.cycle := by
    show 0 < x.timings.green + x.timings.amber + x.timings.minRed
    omega
  exact (Nat.le_div_iff_mul_le hpos).2 (by omega)

theorem ceilingOf_least {s : State} {r : Fin 4} (ht : ∀ l, (s.lane l).timings.InRange) (h : s.ableLanes r ≠ []) :
    94 ≤ s.ceilingOf r := by
  obtain ⟨l, hl⟩ := List.exists_mem_of_ne_nil _ h
  have hsum := List.le_sum_of_mem (List.mem_map_of_mem (f := fun l => (s.lane l).capacity) hl)
  have hleast := Lane.capacity_least (ht l)
  exact le_min (by decide) (hleast.trans hsum)

theorem ceilingOf_formed {s : State} {r : Fin 4} (ht : ∀ l, (s.lane l).timings.InRange) (h : 1 ≤ s.ceilingOf r) :
    94 ≤ s.ceilingOf r :=
  ceilingOf_least ht fun hnone => by rw [ceilingOf_unable hnone] at h; omega

/-- The record `y` serves as `x` did: the same binding, able property and timings, and no conflict come to it. -/
structure Lane.ServesAs (x y : Lane) : Prop where
  ramp : y.ramp = x.ramp
  able : y.able = x.able
  timings : y.timings = x.timings
  conflict : y.state = .faultLocked .conflict → x.state = .faultLocked .conflict

namespace Lane.ServesAs
variable {x y : Lane}

theorem refl (x : Lane) : x.ServesAs x := ⟨rfl, rfl, rfl, id⟩

theorem of_unlocked (hr : y.ramp = x.ramp) (ha : y.able = x.able) (ht : y.timings = x.timings) (hl : y.isLocked = false) :
    x.ServesAs y :=
  ⟨hr, ha, ht, fun h => by simp [Lane.isLocked, h] at hl⟩

theorem enter (hl : x.isLocked = false) {st : LaneState} (hs : (x.enter st).isLocked = false) : x.ServesAs (x.enter st) :=
  of_unlocked rfl (Lane.enter_able hl hs) rfl hs

theorem stopPath (x : Lane) : x.ServesAs x.stopPath := by
  refine ⟨Lane.stopPath_ramp x, Lane.stopPath_able x, Lane.stopPath_timings x, fun h => ?_⟩
  have hlocked : x.isLocked = true := by rw [← Lane.stopPath_isLocked, Lane.isLocked, h]
  rw [stopPath_out ((isOut_iff x).2 (.inr hlocked))] at h
  exact h

theorem light (x : Lane) (supply : Bool) : x.ServesAs (x.light supply) := by
  rw [Lane.light_eq]
  split
  · next h => exact enter (by simp [Lane.isLocked, h.1]) (by cases supply <;> rfl)
  · exact refl x

theorem of_alike (h : x.Alike y) : x.ServesAs y := by
  obtain ⟨hstate, hramp, hin, hleaving, -, htimings⟩ := h.parts
  exact ⟨hramp, by simp only [Lane.able, Lane.isLocked, hstate, hramp, hin, hleaving], htimings, fun hy => hstate ▸ hy⟩

end Lane.ServesAs

/-! ## Changes that carry metering on -/

/-- The record `y` meters by what `x` held: the same rate part, no run begun, the plan kept while it runs, and a fresh entry to
METERING as it stood. -/
structure Ramp.Carries (x y : Ramp) : Prop where
  rate : y.rate = x.rate
  runs : y.Runs → x.Runs
  active : y.Runs → x.ctl.active.isSome = true → y.ctl.active.isSome = true
  fresh : y.sched.fresh = true → x.sched.fresh = true ∧ y.sched.sinceGrant = x.sched.sinceGrant
    ∧ (x.ctl.state = .metering → y.ctl.state = .metering)

theorem Ramp.Carries.refl (x : Ramp) : x.Carries x := ⟨rfl, id, fun _ => id, fun h => ⟨h, rfl, id⟩⟩

theorem Ramp.Carries.trans {x y z : Ramp} (h : x.Carries y) (k : y.Carries z) : x.Carries z where
  rate := k.rate.trans h.rate
  runs := h.runs ∘ k.runs
  active hz ha := k.active hz (h.active (k.runs hz) ha)
  fresh hz := by
    obtain ⟨hy, hsince, hstate⟩ := k.fresh hz
    obtain ⟨hx, hsince', hstate'⟩ := h.fresh hy
    exact ⟨hx, hsince.trans hsince', hstate ∘ hstate'⟩

theorem Ramp.Carries.charged {x y : Ramp} (h : x.Carries y) (hx : x.Charged) : y.Charged where
  active hy := h.active hy (hx.active (h.runs hy))
  rate hy := h.rate ▸ hx.rate (h.runs hy)
  fresh hy := by
    obtain ⟨hfresh, hsince, hstate⟩ := h.fresh hy
    obtain ⟨hmetering, hheadway⟩ := hx.fresh hfresh
    exact ⟨hstate hmetering, by rw [hsince, hheadway, h.rate]⟩

theorem ceilingOf_of_servesAs {s t : State} (h : ∀ l, (s.lane l).ServesAs (t.lane l)) (r : Fin 4) :
    t.ceilingOf r = s.ceilingOf r :=
  ceilingOf_of_able (fun l => (h l).ramp) (fun l => (h l).able) (fun l => Lane.capacity_of_timings (h l).timings) r

theorem State.Unlocked.next {s t : State} {r : Fin 4} (h : s.Unlocked r) (hl : ∀ l, (s.lane l).ServesAs (t.lane l))
    (hr : (s.ramp r).Carries (t.ramp r)) : t.Unlocked r :=
  fun ht l hb hc => h (hr.runs ht) l ((hl l).ramp ▸ hb) ((hl l).conflict hc)

theorem State.Capped.next {s t : State} {r : Fin 4} (h : s.Capped r) (hl : ∀ l, (s.lane l).ServesAs (t.lane l))
    (hr : (s.ramp r).Carries (t.ramp r)) : t.Capped r := by
  refine ⟨?_, fun ht => ?_⟩ <;> rw [hr.rate, ceilingOf_of_servesAs hl]
  · exact h.ceiling
  · exact h.within (hr.runs ht)

/-- The ceiling of a ramp reads no lane that is not bound to it. -/
theorem ceilingOf_congr_at {s t : State} {r : Fin 4}
    (h : ∀ l, t.lane l = s.lane l ∨ ((t.lane l).ramp ≠ some r ∧ (s.lane l).ramp ≠ some r)) : t.ceilingOf r = s.ceilingOf r := by
  have hable : t.ableLanes r = s.ableLanes r := by
    simp only [State.ableLanes, State.members, List.filter_filter]
    refine List.filter_congr fun l _ => ?_
    obtain hl | ⟨ht, hs⟩ := h l
    · rw [hl]
    · simp [ht, hs]
  have hcapacity : ∀ l ∈ s.ableLanes r, (t.lane l).capacity = (s.lane l).capacity := fun l hl => by
    rw [(h l).resolve_right fun hne => hne.2 ((mem_ableLanes s r l).1 hl).1]
  rw [State.ceilingOf, hable, List.map_congr_left hcapacity, State.ceilingOf]

namespace State.MeteringBut
variable {s t : State} {p q : Fin 4 → Prop}

theorem mono (h : s.MeteringBut p) (hpq : ∀ r, p r → q r) : s.MeteringBut q :=
  ⟨h.1, fun r => ⟨(h.2 r).1, (h.2 r).2.1, (h.2 r).2.2.imp_left (hpq r)⟩⟩

theorem next (h : s.MeteringBut p) (hl : ∀ l, (s.lane l).ServesAs (t.lane l)) (hr : ∀ r, (s.ramp r).Carries (t.ramp r)) :
    t.MeteringBut p :=
  ⟨fun l => (hl l).timings ▸ h.1 l, fun r => ⟨(hr r).charged (h.2 r).1, (h.2 r).2.1.next hl (hr r),
    (h.2 r).2.2.imp_right fun hc => hc.next hl (hr r)⟩⟩

/-- A change of the record of ramp `r` alone. -/
theorem setRamp (h : s.MeteringBut p) {r : Fin 4} {x : Ramp} (hx : x.Charged) (hu : (s.setRamp r x).Unlocked r)
    (hc : p r ∨ (s.setRamp r x).Capped r) : (s.setRamp r x).MeteringBut p := by
  refine ⟨h.1, fun i => ?_⟩
  by_cases hi : i = r
  · subst hi
    exact ⟨by rwa [State.setRamp_ramp_self], hu, hc⟩
  · have hramp : (s.setRamp r x).ramp i = s.ramp i := by rw [State.setRamp_ramp, if_neg hi]
    obtain ⟨hcharged, hunlocked, hcapped⟩ := h.2 i
    refine ⟨hramp ▸ hcharged, fun hr => hunlocked (hramp ▸ hr), hcapped.imp_right fun hc => ⟨?_, fun hr => ?_⟩⟩
    · rw [hramp]; exact hc.ceiling
    · rw [hramp] at hr ⊢; exact hc.within hr

/-- A ramp judged to be capped no longer has to hear. -/
theorem settle (h : s.MeteringBut p) {r : Fin 4} (hr : s.Capped r) : s.MeteringBut fun i => p i ∧ i ≠ r := by
  refine ⟨h.1, fun i => ⟨(h.2 i).1, (h.2 i).2.1, ?_⟩⟩
  by_cases hi : i = r
  · exact .inr (hi ▸ hr)
  · exact (h.2 i).2.2.imp_left (⟨·, hi⟩)

end State.MeteringBut

theorem setRamp_carries {s : State} {r : Fin 4} {x : Ramp} (h : (s.ramp r).Carries x) (i : Fin 4) :
    (s.ramp i).Carries ((s.setRamp r x).ramp i) := by
  rw [State.setRamp_ramp]; split
  · next e => rw [e]; exact h
  · exact .refl _

theorem setRamp_carried {s : State} {p : Fin 4 → Prop} (h : s.MeteringBut p) {r : Fin 4} {x : Ramp}
    (hx : (s.ramp r).Carries x) : (s.setRamp r x).MeteringBut p := h.next (fun _ => .refl _) (setRamp_carries hx)

/-! ## The shared operations -/

section Operations
variable {s : State} {p : Fin 4 → Prop}

theorem refreshCalls_metering (h : s.MeteringBut p) (r : Fin 4) : (s.refreshCalls r).MeteringBut p :=
  refreshCalls_eq s r ▸ setRamp_carried h ⟨rfl, id, fun _ => id, fun hf => ⟨hf, rfl, id⟩⟩

theorem formEntryDegraded_metering (h : s.MeteringBut p) (r : Fin 4) : (s.formEntryDegraded r).MeteringBut p := by
  rw [State.formEntryDegraded, State.modQueue_eq]
  exact setRamp_carried h ⟨rfl, id, fun _ => id, fun hf => ⟨hf, rfl, id⟩⟩

theorem hearChannel_metering (h : s.MeteringBut p) (b : Option (Fin 4)) : (s.hearChannel b).MeteringBut p := by
  cases b with
  | none => exact h
  | some r => exact refreshCalls_metering (formEntryDegraded_metering h r) r

theorem enterStopping_carries (s : State) (r i : Fin 4) : (s.ramp i).Carries ((s.enterStopping r).ramp i) := by
  rw [enterStopping_ramp]; split
  · next e => rw [e]; exact ⟨rfl, nofun, nofun, nofun⟩
  · exact .refl _

theorem enterStopping_servesAs (s : State) (r : Fin 4) (l : Fin 8) : (s.lane l).ServesAs ((s.enterStopping r).lane l) := by
  rw [enterStopping_lane]
  split <;> [exact .stopPath _; exact .refl _]

theorem enterStandby_carries {s : State} {r : Fin 4} (hr : s.rampState r ≠ .metering) (i : Fin 4) :
    (s.ramp i).Carries ((s.enterStandby r).ramp i) := by
  rw [enterStandby_ramp]; split
  · next e => subst e; exact ⟨rfl, nofun, nofun, fun hf => ⟨hf, rfl, fun hm => absurd hm hr⟩⟩
  · exact .refl _

theorem standbyIfOut_carries (s : State) (r i : Fin 4) : (s.ramp i).Carries ((s.standbyIfOut r).ramp i) := by
  unfold State.standbyIfOut
  split
  · next hc =>
    simp only [Bool.and_eq_true, decide_eq_true_eq] at hc
    exact enterStandby_carries (by simp [hc.1]) i
  · exact .refl _

theorem stopRamp_carries (s : State) (r i : Fin 4) : (s.ramp i).Carries ((s.stopRamp r).ramp i) := by
  unfold State.stopRamp
  split <;> [exact (enterStopping_carries s r i).trans (standbyIfOut_carries _ r i); exact .refl _]

theorem stopRamp_servesAs (s : State) (r : Fin 4) (l : Fin 8) : (s.lane l).ServesAs ((s.stopRamp r).lane l) := by
  unfold State.stopRamp
  split <;> [(rw [standbyIfOut_lane]; exact enterStopping_servesAs s r l); exact .refl _]

theorem enterStopping_metering (h : s.MeteringBut p) (r : Fin 4) : (s.enterStopping r).MeteringBut p :=
  h.next (enterStopping_servesAs s r) (enterStopping_carries s r)

theorem standbyIfOut_metering (h : s.MeteringBut p) (r : Fin 4) : (s.standbyIfOut r).MeteringBut p :=
  h.next (fun l => by rw [standbyIfOut_lane]; exact .refl _) (standbyIfOut_carries s r)

theorem stopRamp_metering (h : s.MeteringBut p) (r : Fin 4) : (s.stopRamp r).MeteringBut p :=
  h.next (stopRamp_servesAs s r) (stopRamp_carries s r)

/-- A ramp that has been stopped does not run. -/
theorem stopRamp_not_runs (s : State) (r : Fin 4) : ¬ ((s.stopRamp r).ramp r).Runs := by
  by_cases h : s.rampRuns r = true
  · rw [stopRamp_running h]
    intro hr
    have hstopping := (standbyIfOut_carries (s.enterStopping r) r r).runs hr
    rw [enterStopping_ramp, if_pos rfl] at hstopping
    exact hstopping.elim nofun nofun
  · rw [stopRamp_still (Bool.not_eq_true _ ▸ h), ← rampRuns_iff_runs]; exact h

/-- Ramp `r` and its lanes have changed and the ramp is stopped: whatever its lanes are now, metering is sound but for it. -/
theorem stopRamp_metering_of_others {t : State} {r : Fin 4} (h : s.MeteringBut p)
    (htimings : ∀ l, (t.lane l).timings.InRange) (hbinding : ∀ l, (t.lane l).ramp = (s.lane l).ramp)
    (hlane : ∀ l, (s.lane l).ramp ≠ some r → t.lane l = s.lane l)
    (hramp : ∀ i, i ≠ r → t.ramp i = s.ramp i) (hcharged : (t.ramp r).Charged) :
    (t.stopRamp r).MeteringBut fun i => p i ∨ i = r := by
  have hserves := stopRamp_servesAs t r
  refine ⟨fun l => (hserves l).timings ▸ htimings l, fun i => ?_⟩
  by_cases hi : i = r
  · subst hi
    exact ⟨(stopRamp_carries t i i).charged hcharged, fun hruns => absurd hruns (stopRamp_not_runs t i), .inl (.inr rfl)⟩
  · have hsame : t.ramp i = s.ramp i := hramp i hi
    have hcarries : (s.ramp i).Carries ((t.stopRamp r).ramp i) := hsame ▸ stopRamp_carries t r i
    have hother {l : Fin 8} (hl : (s.lane l).ramp = some i) : t.lane l = s.lane l :=
      hlane l fun e => hi (Option.some.inj (hl.symm.trans e))
    have hceiling : (t.stopRamp r).ceilingOf i = s.ceilingOf i := by
      rw [ceilingOf_of_servesAs hserves]
      refine ceilingOf_congr_at fun l => ?_
      by_cases hl : (s.lane l).ramp = some i
      · exact .inl (hother hl)
      · exact .inr ⟨by rwa [hbinding], hl⟩
    obtain ⟨hs, hunlocked, hcapped⟩ := h.2 i
    refine ⟨hcarries.charged hs, fun hruns l hl hc => ?_, hcapped.imp .inl fun hcap => ⟨?_, fun hruns => ?_⟩⟩
    · rw [(hserves l).ramp, hbinding] at hl
      exact hunlocked (hcarries.runs hruns) l hl (hother hl ▸ (hserves l).conflict hc)
    · rw [hcarries.rate, hceiling]; exact hcap.ceiling
    · rw [hcarries.rate, hceiling]; exact hcap.within (hcarries.runs hruns)

/-- A rate part handed over that keeps the ramp charged: the final rate is at least 94 while it runs, and has its headway. -/
theorem handRate_charged {x : Ramp} (h : x.Charged) {q : Rate}
    (hq : x.Runs → 94 ≤ q.final ∧ q.headway = ceilDiv 36000 q.final) : (x.handRate q).Charged where
  active := h.active
  rate := hq
  fresh hf := by
    rw [handRate_fresh] at hf
    obtain ⟨hmetering, hsince⟩ := h.fresh hf
    refine ⟨hmetering, ?_⟩
    by_cases hq : q.headway = x.rate.headway <;> simp [Ramp.handRate, hf, hq, hsince]

/-- A ceiling formed anew is at least 94 where it cuts the rate. -/
theorem newCeiling_charged {x : Ramp} (h : x.Charged) {ceiling : Nat} (hc : 1 ≤ ceiling → 94 ≤ ceiling) (running : Bool) :
    (x.handRate (x.rate.newCeiling running ceiling)).Charged := by
  refine handRate_charged h fun hruns => ?_
  rw [newCeiling_eq]
  split
  · next hcut => exact ⟨hc hcut.2.1, rfl⟩
  · exact h.rate hruns

theorem formCeiling_metering (h : s.MeteringBut p) (r : Fin 4) : (s.formCeiling r).MeteringBut fun i => p i ∨ i = r := by
  rw [formCeiling_eq]
  refine (h.mono fun _ => .inl).setRamp (newCeiling_charged (h.2 r).1 (ceilingOf_formed h.1) _) ?_ (.inl (.inr rfl))
  intro hr
  rw [State.setRamp_ramp_self] at hr
  exact (h.2 r).2.1 hr

theorem formCeiling_ceiling (s : State) (r : Fin 4) : ((s.formCeiling r).ramp r).rate.ceiling = s.ceilingOf r := by
  rw [formCeiling_eq, State.setRamp_ramp_self, handRate_rate, newCeiling_ceiling]

/-- A ramp that does not run, or has an able lane, is capped by a ceiling formed anew (R83). -/
theorem formCeiling_capped {r : Fin 4} (h : (s.ramp r).Runs → s.ableLanes r ≠ [])
    (ht : ∀ l, (s.lane l).timings.InRange) : (s.formCeiling r).Capped r := by
  refine ⟨formCeiling_ceiling s r, fun hr => ?_⟩
  rw [formCeiling_eq, State.setRamp_ramp_self] at hr
  have hruns : s.rampRuns r = true := (rampRuns_iff_runs s r).2 hr
  have hleast := ceilingOf_least ht (h hr)
  show ((s.formCeiling r).ramp r).rate.final ≤ s.ceilingOf r
  rw [formCeiling_eq, State.setRamp_ramp_self, handRate_rate, newCeiling_eq]
  split
  · exact le_rfl
  · next hcut => exact not_lt.1 fun hlt => hcut ⟨hruns, by omega, hlt⟩

theorem heard_metering (h : s.MeteringBut p) (r : Fin 4) : (s.heard r).MeteringBut fun i => p i ∨ i = r :=
  refreshCalls_formCeiling s r ▸ formCeiling_metering (refreshCalls_metering h r) r

/-- A ramp that hears of its lanes is capped, or has lost the last able one and stops (R68, R83). -/
theorem refreshRamp_metering (h : s.MeteringBut p) (r : Fin 4) : (s.refreshRamp r).MeteringBut fun i => p i ∧ i ≠ r := by
  have hheard := heard_metering h r
  have hdrop {t : State} (ht : t.MeteringBut fun i => p i ∨ i = r) (hc : t.Capped r) : t.MeteringBut fun i => p i ∧ i ≠ r :=
    (ht.settle hc).mono fun i hi => ⟨hi.1.resolve_right hi.2, hi.2⟩
  by_cases hable : s.rampRuns r = true ∧ s.ableLanes r = []
  · obtain ⟨hruns, hnone⟩ := hable
    rw [refreshRamp_unable hruns hnone, stopRamp_running (by rw [rampRuns_congr (heard_rampState s r), hruns])]
    refine standbyIfOut_metering (hdrop (enterStopping_metering hheard r) ⟨?_, ?_⟩) r
    · rw [(enterStopping_carries _ r r).rate, ceilingOf_of_servesAs (enterStopping_servesAs _ r),
        ← refreshCalls_formCeiling, formCeiling_ceiling]
      rfl
    · rw [enterStopping_ramp, if_pos rfl]; nofun
  · rw [refreshRamp_able fun hruns hnone => hable ⟨hruns, hnone⟩]
    refine standbyIfOut_metering (hdrop hheard ?_) r
    rw [← refreshCalls_formCeiling]
    refine formCeiling_capped (fun hr hnone => hable ⟨?_, ?_⟩) h.1
    · rwa [← rampRuns_congr (refreshCalls_rampState s r), rampRuns_iff_runs]
    · rwa [ableLanes_congr (refreshCalls_lane s r)] at hnone

theorem refreshOf_metering (h : s.MeteringBut p) (b : Option (Fin 4)) :
    (s.refreshOf b).MeteringBut fun i => p i ∧ b ≠ some i := by
  cases b with
  | none => exact h.mono fun i hi => ⟨hi, nofun⟩
  | some r => exact (refreshRamp_metering h r).mono fun i hi => ⟨hi.1, fun e => hi.2 (Option.some.inj e).symm⟩

theorem foldl_metering {f : State → Fin 4 → State} {q : Fin 4 → Fin 4 → Prop}
    (hf : ∀ (s : State) (p : Fin 4 → Prop) (r : Fin 4), s.MeteringBut p → (f s r).MeteringBut fun i => p i ∧ q r i)
    (rs : List (Fin 4)) (h : s.MeteringBut p) : (rs.foldl f s).MeteringBut fun i => p i ∧ ∀ r ∈ rs, q r i := by
  induction rs generalizing s p with
  | nil => exact h.mono fun i hi => ⟨hi, by simp⟩
  | cons r rs ih => exact (ih (hf s p r h)).mono fun i ⟨⟨hp, hr⟩, hrs⟩ => ⟨hp, List.forall_mem_cons.2 ⟨hr, hrs⟩⟩

theorem refreshAll_metering (h : s.MeteringSound) : s.refreshAll.MeteringSound := by
  rw [meteringSound_iff] at h ⊢
  exact (foldl_metering (fun _ _ r hp => refreshRamp_metering hp r) _ h).mono fun i hi => hi.1

theorem stopAll_metering (h : s.MeteringSound) (rs : List (Fin 4)) : (rs.foldl State.stopRamp s).MeteringSound := by
  rw [meteringSound_iff] at h ⊢
  exact (foldl_metering (q := fun _ _ => True) (fun _ _ r hp => (stopRamp_metering hp r).mono fun _ hi => ⟨hi, trivial⟩) rs
    h).mono fun _ hi => hi.1

/-- A lane written is read by the ramps it was and is bound to. -/
theorem setLane_metering (h : s.MeteringSound) {l : Fin 8} {x : Lane} (ht : x.timings.InRange)
    (hlock : x.state = .faultLocked .conflict → x.ramp = (s.lane l).ramp ∧ (s.lane l).state = .faultLocked .conflict) :
    (s.setLane l x).MeteringBut fun i => (s.lane l).ramp = some i ∨ x.ramp = some i := by
  rw [meteringSound_iff] at h
  refine ⟨fun j => ?_, fun i => ⟨(h.2 i).1, fun hr j hb hc => ?_, ?_⟩⟩
  · rw [State.setLane_lane]; split <;> [exact ht; exact h.1 j]
  · rw [State.setLane_lane] at hb hc
    split at hc
    · next e =>
      rw [if_pos e] at hb
      obtain ⟨hramp, hstate⟩ := hlock hc
      exact (h.2 i).2.1 hr l (hramp ▸ hb) hstate
    · next e =>
      rw [if_neg e] at hb
      exact (h.2 i).2.1 hr j hb hc
  · by_cases hi : (s.lane l).ramp = some i ∨ x.ramp = some i
    · exact .inl hi
    · obtain ⟨hs, hx⟩ := not_or.1 hi
      obtain ⟨-, -, hcapped⟩ := h.2 i
      have hceiling : (s.setLane l x).ceilingOf i = s.ceilingOf i := by
        refine ceilingOf_congr_at fun j => ?_
        rw [State.setLane_lane]; split
        · next e => exact .inr ⟨hx, e ▸ hs⟩
        · exact .inl rfl
      exact .inr ⟨hceiling ▸ (hcapped.resolve_left id).ceiling, hceiling ▸ (hcapped.resolve_left id).within⟩

end Operations

end Sys2Proof.Machine

/-! # What passes the display, the lists and metering on -/

namespace Sys2Proof.Machine

/-! ## Changes that none of the three reads -/

/-- The record `y` differs from `x` in nothing that the display, the lists or metering read, but for a moment of entry to
METERING that may be over. -/
structure Ramp.Alike (x y : Ramp) : Prop where
  state : y.ctl.state = x.ctl.state
  active : x.Runs → x.ctl.active.isSome = true → y.ctl.active.isSome = true
  rate : y.rate = x.rate
  waiting : y.sched.waiting = x.sched.waiting
  fresh : y.sched.fresh = true → x.sched.fresh = true ∧ y.sched.sinceGrant = x.sched.sinceGrant

theorem Ramp.Alike.refl (x : Ramp) : x.Alike x := ⟨rfl, fun _ => id, rfl, rfl, fun h => ⟨h, rfl⟩⟩

theorem Ramp.Alike.carries {x y : Ramp} (h : x.Alike y) : x.Carries y := by
  have hruns : y.Runs → x.Runs := by simp only [Ramp.Runs, h.state]; exact id
  exact ⟨h.rate, hruns, fun hy => h.active (hruns hy), fun hf => ⟨(h.fresh hf).1, (h.fresh hf).2, fun hm => h.state.trans hm⟩⟩

/-- A record with its Scheduler state and its plan kept. -/
theorem Ramp.Alike.of_parts {x y : Ramp} (hs : y.ctl.state = x.ctl.state) (ha : y.ctl.active = x.ctl.active)
    (hr : y.rate = x.rate) (hq : y.sched = x.sched) : x.Alike y :=
  ⟨hs, fun _ h => ha ▸ h, hr, by rw [hq], fun h => by rw [hq] at h ⊢; exact ⟨h, rfl⟩⟩

/-- The part in `t` differs from `s` in nothing that the display, the lists or metering read. -/
structure State.Alike (s t : State) : Prop where
  present : t.lamp.present = s.lamp.present
  lane : ∀ l, (s.lane l).Alike (t.lane l)
  chan : SamePresence s t
  ramp : ∀ r, (s.ramp r).Alike (t.ramp r)

namespace State.Alike
variable {s t : State}

theorem rampState (h : s.Alike t) : t.rampState = s.rampState := funext fun r => (h.ramp r).state

theorem display (h : s.Alike t) (hs : s.DisplaySound) : t.DisplaySound := displaySound_alike hs h.present h.rampState h.lane

theorem lists {p : Fin 4 → Prop} (h : s.Alike t) (hs : s.ListsBut p) : t.ListsBut p :=
  hs.next fun r => .inl ⟨(h.ramp r).waiting, calls_congr_at (by rw [h.rampState]) (fun l => (h.lane l).readyFor r)
    fun l _ => by rw [demand_of_presence h.chan]⟩

theorem metering {p : Fin 4 → Prop} (h : s.Alike t) (hs : s.MeteringBut p) : t.MeteringBut p :=
  hs.next (fun l => .of_alike (h.lane l)) fun r => (h.ramp r).carries

/-- Nothing but the plans, the registers and the working items of the part moves. -/
theorem of_records (hp : t.lamp.present = s.lamp.present) (hl : t.lane = s.lane) (hc : t.chan = s.chan)
    (hr : t.ramp = s.ramp) : s.Alike t :=
  ⟨hp, fun l => by rw [hl]; rfl, fun c => by rw [hc]; exact ⟨rfl, rfl, rfl⟩, fun r => by rw [hr]; exact .refl _⟩

theorem refl (s : State) : s.Alike s := of_records rfl rfl rfl rfl

end State.Alike

theorem setRamp_alike {s : State} {r : Fin 4} {x : Ramp} (h : (s.ramp r).Alike x) : s.Alike (s.setRamp r x) := by
  refine ⟨rfl, fun _ => rfl, fun _ => ⟨rfl, rfl, rfl⟩, fun i => ?_⟩
  rw [State.setRamp_ramp]; split
  · next e => rw [e]; exact h
  · exact .refl _

theorem mapRamps_alike {s : State} {f : Fin 4 → Ramp → Ramp} (h : ∀ r, (s.ramp r).Alike (f r (s.ramp r))) :
    s.Alike (s.mapRamps f) :=
  ⟨by rw [State.mapRamps_lamp], fun l => by rw [State.mapRamps_lane]; rfl,
    fun c => by rw [State.mapRamps_chan]; exact ⟨rfl, rfl, rfl⟩,
    fun r => by rw [State.mapRamps_ramp]; exact h r⟩

theorem setLane_alike {s : State} {l : Fin 8} {x : Lane} (h : (s.lane l).Alike x) : s.Alike (s.setLane l x) := by
  refine ⟨rfl, fun i => ?_, fun _ => ⟨rfl, rfl, rfl⟩, fun _ => .refl _⟩
  rw [State.setLane_lane]; split
  · next e => rw [e]; exact h
  · rfl

theorem mapLanes_alike {s : State} {f : Fin 8 → Lane → Lane} (h : ∀ l, (s.lane l).Alike (f l (s.lane l))) :
    s.Alike (s.mapLanes f) :=
  ⟨by rw [State.mapLanes_lamp], fun l => by rw [State.mapLanes_lane]; exact h l,
    fun c => by rw [State.mapLanes_chan]; exact ⟨rfl, rfl, rfl⟩, fun r => by rw [State.mapLanes_ramp]; exact .refl _⟩

/-- The channel record shows the same presence. -/
def Channel.Alike (x y : Channel) : Prop := y.duty = x.duty ∧ y.state = x.state ∧ y.occupied = x.occupied

theorem setChan_alike {s : State} {c : Fin 32} {x : Channel} (h : (s.chan c).Alike x) : s.Alike (s.setChan c x) := by
  refine ⟨rfl, fun _ => rfl, fun i => ?_, fun _ => .refl _⟩
  rw [State.setChan_chan]; split
  · next e => rw [e]; exact h
  · exact ⟨rfl, rfl, rfl⟩

theorem mapChans_alike {s : State} {f : Fin 32 → Channel → Channel} (h : ∀ c, (s.chan c).Alike (f c (s.chan c))) :
    s.Alike (s.mapChans f) :=
  ⟨by rw [State.mapChans_lamp], fun l => by rw [State.mapChans_lane]; rfl, fun c => by rw [State.mapChans_chan]; exact h c,
    fun r => by rw [State.mapChans_ramp]; exact .refl _⟩

theorem modLane_alike {s : State} {l : Fin 8} {f : Lane → Lane} (h : (s.lane l).Alike (f (s.lane l))) :
    s.Alike (s.modLane l f) := setLane_alike h

theorem modChan_alike {s : State} {c : Fin 32} {f : Channel → Channel} (h : (s.chan c).Alike (f (s.chan c))) :
    s.Alike (s.modChan c f) := setChan_alike h

theorem modCtl_alike {s : State} {r : Fin 4} {f : RampControl → RampControl}
    (hs : (f (s.ramp r).ctl).state = (s.ramp r).ctl.state)
    (ha : (f (s.ramp r).ctl).active = (s.ramp r).ctl.active) : s.Alike (s.modCtl r f) :=
  State.modCtl_eq s r f ▸ setRamp_alike (.of_parts hs ha rfl rfl)

theorem modQueue_alike (s : State) (r : Fin 4) (f : Queue → Queue) : s.Alike (s.modQueue r f) :=
  State.modQueue_eq s r f ▸ setRamp_alike (.of_parts rfl rfl rfl rfl)

theorem raise_alike (k : FaultKind) (o : ObjectClass) (i d : Nat) (s : State) : s.Alike (raise k o i d s) :=
  .of_records rfl rfl rfl rfl

/-! ## The three together -/

/-- The display, the lists and, where `g` holds, metering stay sound from `s` to `t`. -/
structure State.Passes (g : Prop) (s t : State) : Prop where
  display : s.DisplaySound → t.DisplaySound
  waiting : s.WaitingSound → t.WaitingSound
  metering : g → s.MeteringSound → t.MeteringSound

namespace State.Passes
variable {g : Prop} {s t u : State}

theorem refl (s : State) : s.Passes g s := ⟨id, id, fun _ => id⟩

theorem trans (h : s.Passes g t) (k : t.Passes g u) : s.Passes g u :=
  ⟨k.display ∘ h.display, k.waiting ∘ h.waiting, fun hg => k.metering hg ∘ h.metering hg⟩

theorem either {c : Prop} [Decidable c] (ht : c → s.Passes g t) (hu : ¬ c → s.Passes g u) : s.Passes g (if c then t else u) := by
  split <;> [exact ht ‹_›; exact hu ‹_›]

theorem ite {c : Prop} [Decidable c] (ht : c → s.Passes g t) : s.Passes g (if c then t else s) := either ht fun _ => refl s

end State.Passes

theorem State.Alike.passes {g : Prop} {s t : State} (h : s.Alike t) : s.Passes g t := by
  refine ⟨h.display, fun hs => ?_, fun _ hs => ?_⟩
  · rw [waitingSound_iff] at hs ⊢; exact h.lists hs
  · rw [meteringSound_iff] at hs ⊢; exact h.metering hs

section Shared
variable {g : Prop} (s : State)

/-- A lane written that serves as it did. -/
theorem setLane_metering_of_serves {p : Fin 4 → Prop} {s : State} (h : s.MeteringBut p) {l : Fin 8} {x : Lane}
    (hx : (s.lane l).ServesAs x) : (s.setLane l x).MeteringBut p := by
  refine h.next (fun j => ?_) fun _ => .refl _
  rw [State.setLane_lane]; split
  · next e => exact e ▸ hx
  · exact .refl _

theorem raise_passes (k : FaultKind) (o : ObjectClass) (i d : Nat) : s.Passes g (raise k o i d s) :=
  (raise_alike k o i d s).passes

theorem stopRamp_passes (r : Fin 4) : s.Passes g (s.stopRamp r) := by
  refine ⟨fun h => stopRamp_display h r, fun h => ?_, fun _ h => ?_⟩
  · rw [waitingSound_iff] at h ⊢; exact stopRamp_lists h r
  · rw [meteringSound_iff] at h ⊢; exact stopRamp_metering h r

theorem refreshCalls_display {s : State} (h : s.DisplaySound) (r : Fin 4) : (s.refreshCalls r).DisplaySound :=
  displaySound_alike h rfl (refreshCalls_rampState s r) fun _ => rfl

end Shared

/-! ## A lane rewritten -/

theorem rewriteLane_metering {s : State} (h : s.MeteringSound) {l : Fin 8} {x : Lane} (ht : x.timings.InRange)
    (hlock : x.state = .faultLocked .conflict → x.ramp = (s.lane l).ramp ∧ (s.lane l).state = .faultLocked .conflict) :
    (s.rewriteLane l x).MeteringSound := by
  refine (meteringSound_iff _).2
    ((refreshOf_metering (refreshOf_metering (setLane_metering h ht hlock) _) _).mono fun i hi => ?_)
  obtain ⟨⟨hp, hbefore⟩, hafter⟩ := hi
  have hx : x.ramp = some i := hp.resolve_left hbefore
  have hmoved : x.ramp ≠ (s.lane l).ramp := fun e => hbefore (e ▸ hx)
  rw [if_neg hmoved] at hafter
  exact hafter hx

/-- A lane that is rewritten to be on the display, with timings in range and no conflict come to it. -/
theorem rewriteLane_passes {g : Prop} {s : State} {l : Fin 8} {x : Lane}
    (hx : s.DisplaySound → x.Shown s.lamp.present s.rampState)
    (ht : (s.lane l).timings.InRange → x.timings.InRange)
    (hlock : x.state = .faultLocked .conflict → x.ramp = (s.lane l).ramp ∧ (s.lane l).state = .faultLocked .conflict) :
    s.Passes g (s.rewriteLane l x) where
  display h := refreshOf_display (refreshOf_display (setLane_display h (hx h)) _) _
  waiting h := rewriteLane_waiting h l x
  metering _ h := rewriteLane_metering h (ht (h.1 l)) hlock

theorem State.DisplaySound.lane {s : State} (h : s.DisplaySound) (l : Fin 8) : (s.lane l).Shown s.lamp.present s.rampState :=
  (displaySound_iff s).1 h l

/-! ## A channel that changes, and its ramps that hear of it -/

section Channels
variable {g : Prop} {s : State}

theorem hearChannel_display (h : s.DisplaySound) (b : Option (Fin 4)) : (s.hearChannel b).DisplaySound :=
  displaySound_alike h (by cases b <;> rfl) (hearChannel_rampState s b) fun l => by rw [hearChannel_lane]; rfl

theorem setChan_display (h : s.DisplaySound) (c : Fin 32) (x : Channel) : (s.setChan c x).DisplaySound :=
  displaySound_alike h rfl rfl fun _ => rfl

theorem setChan_metering {p : Fin 4 → Prop} (h : s.MeteringBut p) (c : Fin 32) (x : Channel) : (s.setChan c x).MeteringBut p :=
  h.next (fun _ => .refl _) fun _ => .refl _

theorem rewriteChannel_passes (s : State) (c : Fin 32) (x : Channel) : s.Passes g (s.rewriteChannel c x) where
  display h := hearChannel_display (hearChannel_display (setChan_display h c x) _) _
  waiting h := rewriteChannel_waiting h c x
  metering _ h := by
    rw [meteringSound_iff] at h ⊢
    exact hearChannel_metering (hearChannel_metering (setChan_metering h c x) _) _

/-- A channel whose duty stands is read by the list of the ramp it serves. -/
theorem setChan_lists_of_duty (h : s.WaitingSound) {c : Fin 32} {x : Channel} (hd : x.duty = (s.chan c).duty) :
    (s.setChan c x).ListsBut fun i => s.boundRamp c = some i :=
  (setChan_lists h c x).mono fun _ hi => hi.elim id fun ht => setChan_boundRamp hd ▸ ht

/-- A channel changes its presence, and its ramp hears of it. -/
theorem setChan_heard_passes {c : Fin 32} {x : Channel} (hd : x.duty = (s.chan c).duty) {t : State}
    (ht : (s.setChan c x).Alike t) : s.Passes g (t.hearChannel (s.boundRamp c)) where
  display h := hearChannel_display (ht.display (setChan_display h c x)) _
  waiting h := (waitingSound_iff _).2
    ((hearChannel_lists (ht.lists (setChan_lists_of_duty h hd)) _).mono fun _ hi => hi.2 hi.1)
  metering _ h := by
    rw [meteringSound_iff] at h ⊢
    exact hearChannel_metering (ht.metering (setChan_metering h c x)) _

theorem failChannel_passes (s : State) (c : Fin 32) (kind : ChannelFault) : s.Passes g (s.failChannel c kind) :=
  setChan_heard_passes (x := (s.chan c).fail kind) rfl (raise_alike ..)

/-- A channel changes its presence, and its ramp forms its list anew. -/
theorem setChan_served_passes {c : Fin 32} {x : Channel} (hd : x.duty = (s.chan c).duty) {t : State}
    (ht : (s.setChan c x).Alike t) (hb : t.boundRamp c = s.boundRamp c) : s.Passes g (t.refreshServed c) := by
  unfold State.refreshServed
  rw [hb]
  refine ⟨fun h => ?_, fun h => ?_, fun _ h => ?_⟩
  · have hdisplay := ht.display (setChan_display h c x)
    cases s.boundRamp c with
    | none => exact hdisplay
    | some r => exact refreshCalls_display hdisplay r
  · have hlists := ht.lists (setChan_lists_of_duty h hd)
    rw [waitingSound_iff]
    cases hr : s.boundRamp c with
    | none => exact hlists.mono fun i hi => by simp [hr] at hi
    | some r => exact (hlists.refreshCalls r).mono fun i ⟨hi, hne⟩ => hne (Option.some.inj (hr ▸ hi)).symm
  · rw [meteringSound_iff] at h ⊢
    have hmetering := ht.metering (setChan_metering h c x)
    cases s.boundRamp c with
    | none => exact hmetering
    | some r => exact refreshCalls_metering hmetering r

end Channels

end Sys2Proof.Machine

/-! # The events and requests of the lanes pass them on -/

namespace Sys2Proof.Machine

/-! ## Transitions of one lane -/

section Transitions
variable {g : Prop} {s : State} {l : Fin 8}

/-- The lane enters a state of the display, and its ramp hears of it. -/
theorem enterLane_passes {st : LaneState} (hst : st ≠ .faultLocked .conflict)
    (hx : s.DisplaySound → ((s.lane l).enter st).Shown s.lamp.present s.rampState) :
    s.Passes g (s.rewriteLane l ((s.lane l).enter st)) :=
  rewriteLane_passes hx id fun h => absurd h hst

theorem moveLane_passes {source : LaneState} {next : Lane → LaneState} (hst : next (s.lane l) ≠ .faultLocked .conflict)
    (hx : (s.lane l).Shown s.lamp.present s.rampState → (s.lane l).state = source →
      ((s.lane l).enter (next (s.lane l))).Shown s.lamp.present s.rampState) :
    s.Passes g (s.moveLane l source next) :=
  .ite fun h => enterLane_passes hst fun hs => hx (hs.lane l) h

theorem Lane.Shown.not_leaving {x : Lane} {present : Bool} {state : Fin 4 → RampState} (h : x.Shown present state)
    (hs : x.state.serves = true) : x.leaving = false := by
  have hable := (h.serves hs).1
  simp only [Lane.able, Bool.and_eq_true, Bool.not_eq_true'] at hable
  exact hable.1.2

/-- A lane whose clear run is complete has been proved, and starts with amber (R116). -/
theorem provingToStarting_passes : s.Passes g (s.moveLane l .proving fun _ => .starting) :=
  moveLane_passes nofun fun h hs => h.move (by simp [Lane.isOut, Lane.isLocked, hs]) rfl (fun _ => h.supplied (.inr hs))
    (fun _ => ⟨h.not_leaving (by simp [hs, LaneState.serves]), (h.serves (by simp [hs, LaneState.serves])).2⟩) nofun nofun

/-- The display goes on from a lit state to one that has been stopped (R117, R120). -/
theorem litToStopped_passes {source st : LaneState} (hsource : source.aspect ≠ .none) (hserves : st.serves = false)
    (hst : ∀ x : Lane, (x.enter st).isOut = false) : s.Passes g (s.moveLane l source fun _ => st) := by
  refine moveLane_passes (fun e => ?_) fun h hs => ?_
  · have hout := hst (s.lane l)
    rw [e] at hout
    exact absurd hout (by simp [Lane.isOut, Lane.isLocked])
  · have hlit : (s.lane l).isLit = true := by simpa [Lane.isLit, hs] using hsource
    refine h.move ?_ (hst _) (fun _ => h.supplied (.inl hlit)) (by simp [hserves]) ?_ ?_
    · rw [← Bool.not_eq_true, isOut_iff, Lane.isLocked_iff, hs]
      rintro (e | ⟨cause, e⟩) <;> simp [e, LaneState.aspect] at hsource
    all_goals rintro rfl; simp [LaneState.serves] at hserves

/-- The red that has served its min red goes where the table of R118 says. -/
theorem minRedExpiry_passes : s.Passes g (s.moveLane l .redMin s.afterMinRed) := by
  have hnever : s.afterMinRed (s.lane l) ≠ .faultLocked .conflict := by
    unfold State.afterMinRed
    repeat' split
    all_goals exact LaneState.noConfusion
  refine moveLane_passes hnever fun h hs => ?_
  have hlit : (s.lane l).isLit = true := by simp [Lane.isLit, hs, LaneState.aspect]
  have hout : (s.lane l).isOut = false := by simp [Lane.isOut, Lane.isLocked, hs]
  have hsupply : s.lamp.present = true := h.supplied (.inl hlit)
  have hup := (h.service hout).2
  unfold State.afterMinRed
  split <;> [exact h.move hout rfl (fun _ => hsupply) nofun nofun nofun; skip]
  next hstay =>
  simp only [Bool.or_eq_true, Option.any_eq_true, decide_eq_true_eq, not_or, not_exists, not_and, Bool.not_eq_true] at hstay
  obtain ⟨hleaving, hstopping⟩ := hstay
  have hstate : ∀ r, (s.lane l).ramp = some r → s.rampState r = .metering ∨ s.rampState r = .suspended := fun r hb => by
    have hr := hup r hb
    have hne := hstopping r hb
    cases hs : s.rampState r <;> simp_all [RampState.isUp]
  split
  · next hsus =>
    refine h.move hout rfl (fun _ => hsupply) (fun _ => ⟨hleaving, hstate⟩) nofun fun _ r hb => ?_
    simpa [hb] using hsus
  · next hsus =>
    refine h.move hout rfl (fun _ => hsupply) (fun _ => ⟨hleaving, hstate⟩) (fun _ r hb => ?_) nofun
    exact (hstate r hb).resolve_right (by simpa [hb] using hsus)

theorem flushExpiry_passes : s.Passes g (s.moveLane l .flush fun _ => .dark) :=
  moveLane_passes nofun fun _ _ => Lane.enter_dark_shown _

/-- A bound lane is locked out by its lamps (R126). -/
theorem lockLane_passes {cause : LockCause} (hc : cause ≠ .conflict)
    (hb : s.DisplaySound → (s.lane l).ramp.isSome = true) : s.Passes g (s.lockLane l cause) :=
  enterLane_passes (by simpa using hc) fun hs => Lane.enter_locked_shown cause (hb hs)

theorem provingFailed_passes (h : (s.lane l).state = .proving) (k : FaultKind) (o : ObjectClass) (i d : Nat) :
    s.Passes g ((raise k o i d s).lockLane l .outputStuck) :=
  (raise_passes s k o i d).trans (lockLane_passes nofun fun hs => (hs.lane l).bound (by simp [h]))

end Transitions

/-! ## The grant -/

/-- The record of a ramp after a grant, `passage` telling whether the lane's exits are counted by its PASSAGE channels. -/
def Ramp.granted (rest : List (Fin 8)) (passage : Bool) (x : Ramp) : Ramp :=
  { x with
    sched := { waiting := rest, sinceGrant := 0, fresh := false }
    queue := if passage = true then x.queue else x.queue.leave }

theorem grantLane_granted (s : State) (r : Fin 4) (l : Fin 8) (rest : List (Fin 8)) :
    s.grantLane r l rest =
      (s.setRamp r ((s.ramp r).granted rest (s.exitPassage l))).setLane l (s.lane l).grant := grantLane_eq s r l rest

theorem Lane.grant_alike (x : Lane) : (x.enter .green).Alike x.grant := rfl

section Grant
variable {s : State} {r : Fin 4} {l : Fin 8} {rest : List (Fin 8)}

theorem grantLane_display (h : s.DisplaySound) (hl : (s.lane l).state = .redReady) : (s.grantLane r l rest).DisplaySound := by
  have hx := h.lane l
  have hserves : (s.lane l).state.serves = true := by simp [hl, LaneState.serves]
  have hgreen : ((s.lane l).enter .green).Shown s.lamp.present s.rampState :=
    hx.move (by simp [Lane.isOut, Lane.isLocked, hl]) rfl
      (fun _ => hx.supplied (.inl (by simp [Lane.isLit, hl, LaneState.aspect])))
      (fun _ => ⟨hx.not_leaving hserves, (hx.serves hserves).2⟩) nofun nofun
  have hstate : (s.setRamp r ((s.ramp r).granted rest (s.exitPassage l))).rampState = s.rampState := setRamp_rampState rfl
  rw [grantLane_granted]
  refine setLane_display (displaySound_alike h rfl hstate fun _ => rfl) ?_
  rw [hstate]
  exact (Lane.grant_alike _).shown hgreen

theorem grantLane_readyFor (i : Fin 4) (j : Fin 8) :
    ((s.grantLane r l rest).lane j).ReadyFor i ↔ j ≠ l ∧ (s.lane j).ReadyFor i := by
  rw [grantLane_granted, State.setLane_lane]; split
  · next e => simp [Lane.ReadyFor, Lane.grant, e]
  · next e => simp [e]

theorem grantLane_ramp (i : Fin 4) : (s.grantLane r l rest).ramp i =
    if i = r then (s.ramp r).granted rest (s.exitPassage l) else s.ramp i := by
  rw [grantLane_granted, State.setLane_ramp, State.setRamp_ramp]

theorem grantLane_demand : (s.grantLane r l rest).demand = s.demand := by
  rw [grantLane_granted]; rfl

/-- The head of a list is called, and after its grant the rest of the list is (R103, R105). -/
theorem grantLane_waiting (h : s.WaitingSound) (hlist : (s.ramp r).sched.waiting = l :: rest) :
    (s.grantLane r l rest).WaitingSound := by
  obtain ⟨hnodup, hcalled⟩ := h r
  rw [hlist] at hnodup hcalled
  obtain ⟨hnew, hrest⟩ := List.nodup_cons.1 hnodup
  have hbound : (s.lane l).ramp = some r := ((calls_iff s r l).1 ((hcalled l).1 List.mem_cons_self)).2.1
  intro i
  by_cases hi : i = r
  · subst hi
    have hramp : (s.grantLane i l rest).ramp i = (s.ramp i).granted rest (s.exitPassage l) := by rw [grantLane_ramp, if_pos rfl]
    rw [hramp]
    refine ⟨hrest, fun j => ?_⟩
    rw [calls_iff_readyFor, grantLane_readyFor, grantLane_demand, State.rampState, hramp]
    have hj := (hcalled j).trans (calls_iff_readyFor s i j)
    rw [List.mem_cons] at hj
    constructor
    · intro hmem
      obtain ⟨hm, hr, hd⟩ := hj.1 (.inr hmem)
      exact ⟨hm, ⟨fun e => hnew (e ▸ hmem), hr⟩, hd⟩
    · rintro ⟨hm, ⟨hne, hr⟩, hd⟩
      exact (hj.2 ⟨hm, hr, hd⟩).resolve_left hne
  · have hramp : (s.grantLane r l rest).ramp i = s.ramp i := by rw [grantLane_ramp, if_neg hi]
    have hcalls : (s.grantLane r l rest).calls i = s.calls i := by
      refine calls_congr_at (by rw [State.rampState, hramp]; rfl) (fun j => ?_) fun _ _ => by rw [grantLane_demand]
      rw [grantLane_readyFor]
      refine and_iff_right_of_imp fun hj e => hi (Option.some.inj ?_)
      rw [← hj.1, e, hbound]
    rw [hramp, hcalls]
    exact h i

theorem grantLane_metering {p : Fin 4 → Prop} (h : s.MeteringBut p) (hl : (s.lane l).state = .redReady) :
    (s.grantLane r l rest).MeteringBut p := by
  have henter := Lane.ServesAs.enter (x := s.lane l) (st := .green) (by simp [Lane.isLocked, hl]) rfl
  have hgreen : (s.lane l).ServesAs (s.lane l).grant := ⟨henter.ramp, henter.able, henter.timings, fun hc => henter.conflict hc⟩
  have hgranted : (s.ramp r).Carries ((s.ramp r).granted rest (s.exitPassage l)) :=
    ⟨rfl, id, fun _ => id, fun hf => absurd hf Bool.false_ne_true⟩
  rw [grantLane_granted]
  exact setLane_metering_of_serves (setRamp_carried h hgranted) hgreen

theorem grantLane_passes {g : Prop} (hlist : (s.ramp r).sched.waiting = l :: rest) (hl : (s.lane l).state = .redReady) :
    s.Passes g (s.grantLane r l rest) where
  display h := grantLane_display h hl
  waiting h := grantLane_waiting h hlist
  metering _ h := by rw [meteringSound_iff] at h ⊢; exact grantLane_metering h hl

end Grant

/-! ## Red suspicion -/

/-- A lane whose call may change, with its ramp's list formed anew. -/
theorem setLane_called_passes {g : Prop} {s t : State} {l : Fin 8} {x : Lane} {r : Fin 4} (hr : (s.lane l).ramp = some r)
    (hserves : (s.lane l).ServesAs x)
    (hx : (s.lane l).Shown s.lamp.present s.rampState → x.Shown s.lamp.present s.rampState)
    (ht : (s.setLane l x).Alike t) : s.Passes g (t.refreshCalls r) := by
  refine ⟨fun h => refreshCalls_display (ht.display (setLane_display h (hx (h.lane l)))) r, fun h => ?_, fun _ h => ?_⟩
  · refine (waitingSound_iff _).2 (((ht.lists (setLane_lists h l x)).refreshCalls r).mono fun i ⟨hi, hne⟩ => hne ?_)
    rw [hserves.ramp, hr, or_self] at hi
    exact (Option.some.inj hi).symm
  · rw [meteringSound_iff] at h ⊢
    exact refreshCalls_metering (ht.metering (setLane_metering_of_serves h hserves)) r

section Suspicion
variable {g : Prop} (s : State) (l : Fin 8)

theorem redSuspect_passes (h : s.redDoubted l = true) {r : Fin 4} (hr : (s.lane l).ramp = some r) :
    s.Passes g ((s.modLane l Lane.suspect).refreshCalls r) := by
  have hred : (s.lane l).isRed = true := by simp only [State.redDoubted, Bool.and_eq_true] at h; exact h.1.1.1.1.2
  refine setLane_called_passes (x := (s.lane l).suspect) hr ⟨rfl, rfl, rfl, id⟩ (fun hx => ?_) (.refl _)
  exact ⟨⟨hx.bound, hx.supplied, hx.service, fun _ => hred⟩, hx.serves, hx.ready, hx.rests⟩

/-- The end of a suspicion on the lane's record (R140). -/
def Lane.cleared (x : Lane) : Lane := { x with redSuspect := false, recheck := 0, transients := satAdd 255 x.transients }

theorem Lane.Shown.cleared {x : Lane} {present : Bool} {state : Fin 4 → RampState} (h : x.Shown present state) :
    x.cleared.Shown present state :=
  ⟨⟨h.bound, h.supplied, h.service, nofun⟩, h.serves, h.ready, h.rests⟩

theorem endSuspicion_passes : s.Passes g (s.endSuspicion l) := by
  have hserves : (s.lane l).ServesAs (s.lane l).cleared := ⟨rfl, rfl, rfl, id⟩
  show s.Passes g (match (s.lane l).ramp with
    | none => raise .lampTransient .lane l.val (s.lane l).rechecks (s.setLane l (s.lane l).cleared)
    | some r => (raise .lampTransient .lane l.val (s.lane l).rechecks (s.setLane l (s.lane l).cleared)).refreshCalls r)
  cases hr : (s.lane l).ramp with
  | some r => exact setLane_called_passes hr hserves Lane.Shown.cleared (raise_alike ..)
  | none =>
    refine State.Passes.trans ⟨fun h => setLane_display h (h.lane l).cleared, fun h => ?_, fun _ h => ?_⟩ (raise_passes ..)
    · exact setLane_waiting h fun r => by simp [Lane.ReadyFor, Lane.cleared, hr]
    · rw [meteringSound_iff] at h ⊢
      exact setLane_metering_of_serves h hserves

theorem failRecheck_passes (h : (s.lane l).redSuspect = true) : s.Passes g (s.failRecheck l) := by
  have hused : s.Alike (s.modLane l fun x => { x with rechecks := (s.lane l).rechecks + 1 }) := modLane_alike rfl
  refine .either (fun _ => State.Alike.passes (modLane_alike rfl)) fun _ =>
    (hused.passes.trans (raise_passes ..)).trans (lockLane_passes nofun fun hs => (hs.lane l).bound fun hd => ?_)
  have hdark : (s.lane l).state = .dark := by rw [← (hused.lane l).parts.1]; exact hd
  have hred := (hs.lane l).suspect (by rw [raise_lane, (hused.lane l).parts.2.2.2.2.1]; exact h)
  simp [Lane.isRed, hdark, LaneState.aspect] at hred

end Suspicion

/-! ## Conflict -/

section Conflict
variable {g : Prop} {s : State} {l : Fin 8} {r : Fin 4}

theorem lockConflict_alike (q : Nat) (x : Lane) : (x.enter (.faultLocked .conflict)).Alike (x.lockConflict q) := rfl

theorem conflicted_display (h : s.DisplaySound) (hr : (s.lane l).ramp = some r) (detail : Nat) :
    (s.conflicted l r detail).DisplaySound := by
  have hstate : (s.conflicted l r detail).rampState = s.rampState := by
    rw [State.conflicted, State.darkenMembers, mapMembers_rampState, formCeiling_rampState]; rfl
  rw [displaySound_iff, hstate, (conflicted_recordsMove s l r detail).lamp]
  intro i
  rw [conflicted_lane]
  split
  · exact (lockConflict_alike _ _).shown (Lane.enter_locked_shown .conflict (by simp [hr]))
  · split <;> [exact Lane.enter_dark_shown _; exact h.lane i]

theorem conflicted_rampState (detail : Nat) : (s.conflicted l r detail).rampState = s.rampState := by
  rw [State.conflicted, State.darkenMembers, mapMembers_rampState, formCeiling_rampState]; rfl

/-- What a conflict does to a lane: that of its ramp are out, and the others stand. -/
theorem conflicted_lane_other (hr : (s.lane l).ramp = some r) (detail : Nat) {i : Fin 8} (hi : (s.lane i).ramp ≠ some r) :
    (s.conflicted l r detail).lane i = s.lane i := by
  have hne : i ≠ l := fun e => hi (e ▸ hr)
  rw [conflicted_lane, if_neg hne, if_neg fun h => hi h.1]

theorem conflicted_lane_ramp (detail : Nat) (i : Fin 8) : ((s.conflicted l r detail).lane i).ramp = (s.lane i).ramp := by
  rw [conflicted_lane]; split
  · next e => rw [e]; rfl
  · split <;> rfl

theorem conflicted_lane_timings (detail : Nat) (i : Fin 8) :
    ((s.conflicted l r detail).lane i).timings = (s.lane i).timings := by
  rw [conflicted_lane]; split
  · next e => rw [e]; rfl
  · split <;> rfl

theorem conflicted_lists (h : s.WaitingSound) (hr : (s.lane l).ramp = some r) (detail : Nat) :
    (s.conflicted l r detail).ListsBut fun i => i = r := by
  refine ((waitingSound_iff s).1 h).spoil (fun i => ?_) fun i => ?_
  · rw [conflicted_ramp]; split
    · next e => rw [e, handRate_waiting]
    · rfl
  · by_cases hi : i = r
    · exact .inl hi
    · refine .inr ⟨False.elim, calls_congr_at (by rw [conflicted_rampState]) (fun j => ?_) fun _ _ => ?_⟩
      · by_cases hj : (s.lane j).ramp = some r
        · have hne : (s.lane j).ramp ≠ some i := fun e => hi (Option.some.inj (e.symm.trans hj))
          simp [Lane.ReadyFor, conflicted_lane_ramp, hne]
        · rw [conflicted_lane_other hr detail hj]
      · rw [demand_congr (conflicted_chan s l r detail)]

/-- The ramp of the conflict has stopped, and no other ramp reads its lanes. -/
theorem conflicted_metering (h : s.MeteringSound) (hr : (s.lane l).ramp = some r) (detail : Nat) :
    ((s.conflicted l r detail).stopRamp r).MeteringBut fun i => i = r := by
  rw [meteringSound_iff] at h
  have htimings (i : Fin 8) : ((s.conflicted l r detail).lane i).timings.InRange := by
    rw [conflicted_lane_timings]; exact h.1 i
  have hcharged : ((s.conflicted l r detail).ramp r).Charged := by
    rw [conflicted_ramp, if_pos rfl]
    exact newCeiling_charged (h.2 r).1 (ceilingOf_formed htimings) _
  have hother (i : Fin 4) (hi : i ≠ r) : (s.conflicted l r detail).ramp i = s.ramp i := by rw [conflicted_ramp, if_neg hi]
  exact (stopRamp_metering_of_others h htimings (conflicted_lane_ramp detail) (fun i => conflicted_lane_other hr detail)
    hother hcharged).mono fun _ hi => hi.resolve_left id

/-- A conflict darkens the ramp, stops it, and it hears of its lanes (R68, R126, R127). -/
theorem qualifyConflict_passes {g : Prop} (hr : (s.lane l).ramp = some r) (detail : Nat) :
    s.Passes g (s.qualifyConflict l r detail) := by
  rw [qualifyConflict_eq]
  refine ⟨fun h => ?_, fun h => ?_, fun _ h => ?_⟩
  · exact refreshRamp_display (stopRamp_display (conflicted_display h hr detail) r) r
  · exact (waitingSound_iff _).2 ((refreshRamp_lists (stopRamp_lists (conflicted_lists h hr detail) r) r).mono
      fun _ hi => hi.2 hi.1)
  · exact (meteringSound_iff _).2 ((refreshRamp_metering (conflicted_metering h hr detail) r).mono fun _ hi => hi.2 hi.1)

end Conflict

end Sys2Proof.Machine

/-! # The lamp supply and the requests of the lanes pass them on -/

namespace Sys2Proof.Machine

/-! ## Loss of the supply -/

section SupplyLoss
variable {g : Prop} {s : State}

theorem Lane.ServesAs.trans {x y z : Lane} (h : x.ServesAs y) (k : y.ServesAs z) : x.ServesAs z :=
  ⟨k.ramp.trans h.ramp, k.able.trans h.able, k.timings.trans h.timings, h.conflict ∘ k.conflict⟩

theorem Lane.loseSupply_servesAs (stopping : Bool) (x : Lane) : x.ServesAs (x.loseSupply stopping) := by
  rw [Lane.loseSupply_eq]
  split <;> [skip; exact .refl x]
  next h =>
  have hout : x.ServesAs (x.enter .supplyOut) := .enter (unlocked_of_losesSupply ((losesSupply_iff x).2 h)) rfl
  split <;> [exact hout.trans (.enter rfl rfl); exact hout]

/-- Without the supply a lane that was lit or proving waits in SUPPLY_OUT, or is DARK if it was to stop (R125). -/
theorem Lane.Shown.loseSupply {x : Lane} {present stopping : Bool} {state : Fin 4 → RampState} (h : x.Shown present state)
    (hstopping : stopping = false → ∀ r, x.ramp = some r → state r ≠ .stopping) : (x.loseSupply stopping).Shown false state := by
  rw [Lane.loseSupply_eq]
  split
  · next hlit =>
    split <;> [exact enter_dark_shown _; skip]
    next hstay =>
    obtain ⟨hleaving, hno⟩ := not_or.1 hstay
    have hout : x.isOut = false := by
      rw [← Bool.not_eq_true, isOut_iff]
      rintro (hd | hl)
      · exact hlit.2.elim (by simp [Lane.isLit, LaneState.aspect, hd]) (by simp [hd])
      · rw [unlocked_of_losesSupply ((losesSupply_iff x).2 hlit)] at hl
        exact Bool.false_ne_true hl
    refine h.move hout rfl (by simp [Lane.isLit, LaneState.aspect]) (fun _ => ⟨by simpa using hleaving, fun r hb => ?_⟩)
      nofun nofun
    have hup := (h.service hout).2 r hb
    have hne := hstopping (by simpa using hno) r hb
    cases hs : state r <;> simp_all [RampState.isUp]
  · next hlit =>
    refine ⟨⟨h.bound, fun hp => absurd ⟨?_, hp⟩ hlit, h.service, h.suspect⟩, h.serves, h.ready, h.rests⟩
    refine h.bound fun hd => ?_
    simp [Lane.isLit, LaneState.aspect, hd] at hp

theorem supplyLost_display (h : s.DisplaySound) : s.supplyLost.DisplaySound := by
  rw [displaySound_iff, supplyLost_rampState]
  intro l
  rw [supplyLost_lane]
  have hpresent : s.supplyLost.lamp.present = false := by simp [State.supplyLost]
  rw [hpresent]
  exact (h.lane l).loseSupply fun hno r hb => by simpa [hb] using hno

theorem loseSupply_passes : s.Passes g s.loseSupply := by
  rw [loseSupply_eq]
  refine ⟨fun h => foldl_display (fun _ r hs => refreshRamp_display hs r) _ (supplyLost_display h), fun h => ?_, fun _ h => ?_⟩
  · refine refreshAll_waiting (p := fun _ => True) fun r => ⟨?_, .inl trivial⟩
    rw [supplyLost_ramp]; exact (h r).1
  · refine refreshAll_metering ?_
    rw [meteringSound_iff] at h ⊢
    exact h.next (fun l => by rw [supplyLost_lane]; exact Lane.loseSupply_servesAs _ _) fun r => by
      rw [supplyLost_ramp]; exact .refl _

end SupplyLoss

/-! ## Return of the supply -/

section SupplyReturn
variable {g : Prop} {s : State}

/-- The lane at the return of the supply (R125). -/
def Lane.regain (x : Lane) : Lane := if x.state = .supplyOut then x.conflictAnew.enter .proving else x.conflictAnew

theorem Lane.conflictAnew_alike (x : Lane) : x.Alike x.conflictAnew := rfl

theorem Lane.regain_servesAs (x : Lane) : x.ServesAs x.regain := by
  have hanew : x.ServesAs x.conflictAnew := .of_alike x.conflictAnew_alike
  unfold Lane.regain
  split <;> [skip; exact hanew]
  next h => exact hanew.trans (.enter (by simp [Lane.isLocked, h]) rfl)

theorem Lane.regain_readyFor (x : Lane) (r : Fin 4) : x.regain.ReadyFor r ↔ x.ReadyFor r := by
  unfold Lane.regain
  split
  · next h => simp [Lane.ReadyFor, h]
  · exact x.conflictAnew_alike.readyFor r

theorem Lane.Shown.regain {x : Lane} {present : Bool} {state : Fin 4 → RampState} (h : x.Shown present state) :
    x.regain.Shown true state := by
  have hanew : x.conflictAnew.Shown present state := x.conflictAnew_alike.shown h
  unfold Lane.regain
  split
  · next hs =>
    have hserves : x.conflictAnew.state.serves = true := by simp [hs, LaneState.serves]
    exact hanew.move (by simp [Lane.isOut, Lane.isLocked, hs]) rfl (fun _ => rfl)
      (fun _ => ⟨hanew.not_leaving hserves, (hanew.serves hserves).2⟩) nofun nofun
  · exact ⟨⟨hanew.bound, fun _ => rfl, hanew.service, hanew.suspect⟩, hanew.serves, hanew.ready, hanew.rests⟩

theorem regainSupply_lane (l : Fin 8) : s.regainSupply.lane l = (s.lane l).regain := by
  rw [State.regainSupply, State.mapLanes_lane]; rfl

theorem regainSupply_ramp : s.regainSupply.ramp = s.ramp := by rw [State.regainSupply, State.mapLanes_ramp]; rfl

theorem regainSupply_chan : s.regainSupply.chan = s.chan := by rw [State.regainSupply, State.mapLanes_chan]; rfl

theorem regainSupply_rampState : s.regainSupply.rampState = s.rampState := by
  funext r; simp only [State.rampState, regainSupply_ramp]

theorem regainSupply_passes : s.Passes g s.regainSupply := by
  refine ⟨fun h => ?_, fun h => ?_, fun _ h => ?_⟩
  · have hpresent : s.regainSupply.lamp.present = true := by rw [State.regainSupply, State.mapLanes_lamp]
    rw [displaySound_iff, regainSupply_rampState, hpresent]
    intro l
    rw [regainSupply_lane]
    exact (h.lane l).regain
  · rw [waitingSound_iff] at h ⊢
    refine h.next fun r => .inl ⟨by rw [regainSupply_ramp], ?_⟩
    exact calls_congr_at (by rw [regainSupply_rampState]) (fun l => by rw [regainSupply_lane]; exact Lane.regain_readyFor _ r)
      fun l _ => by rw [demand_congr regainSupply_chan]
  · rw [meteringSound_iff] at h ⊢
    exact h.next (fun l => by rw [regainSupply_lane]; exact Lane.regain_servesAs _) fun r => by
      rw [regainSupply_ramp]; exact .refl _

end SupplyReturn

/-! ## LANE CONFIGURE, LANE ENABLE, LANE DISABLE and LANE RESTORE -/

section LaneRequests
variable {g : Prop} {s : State} {l : Fin 8}

theorem LaneTimings.clamp_inRange (t : LaneTimings) : t.clamp.InRange :=
  ⟨clampTo_range (by decide) _, clampTo_range (by decide) _, clampTo_range (by decide) _, clampTo_range (by decide) _,
    clampTo_range (by decide) _⟩

/-- A DARK lane written anew stays DARK (R128). -/
theorem configureLane_passes (h : (s.lane l).state = .dark) (b : Option (Fin 4)) (t : LaneTimings) :
    s.Passes g (s.rewriteLane l ((s.lane l).configure b t.clamp)) := by
  rw [Lane.configure_eq]
  refine rewriteLane_passes (fun hs => ?_) (fun _ => t.clamp_inRange) (by simp [h])
  refine Lane.shown_of_out (by simp [Lane.isOut, h]) (fun hne => absurd h hne) fun hsuspect => ?_
  have hred := (hs.lane l).suspect hsuspect
  simpa [Lane.isRed] using hred

theorem serveLaneConfigure_passes (ramp : Byte) (t : LaneTimings) (l : Fin 8) (s : State) :
    s.Passes g (serveLaneConfigure ramp t l s).state := by
  unfold serveLaneConfigure
  split <;> [exact .refl s; skip]
  split <;> [exact .refl s; skip]
  next hdark =>
  split <;> [exact .refl s; skip]
  split <;> [exact .refl s; skip]
  split <;> [exact .refl s; exact configureLane_passes (not_not.1 hdark) _ t]

/-- A lane lit on a METERING ramp is as it was, or goes on from DARK (R115). -/
theorem lightIfMetering_shown {x : Lane} (h : x.Shown s.lamp.present s.rampState) :
    (s.lightIfMetering x).Shown s.lamp.present s.rampState := by
  unfold State.lightIfMetering
  split <;> [skip; exact h]
  next hm =>
  refine h.light fun r hb => .inl ?_
  simpa [hb] using hm

theorem lightIfMetering_timings (x : Lane) : (s.lightIfMetering x).timings = x.timings := by
  unfold State.lightIfMetering Lane.light
  split <;> [split <;> rfl; rfl]

theorem lightIfMetering_conflict {x : Lane} (h : (s.lightIfMetering x).state = .faultLocked .conflict) :
    x.state = .faultLocked .conflict := by
  unfold State.lightIfMetering at h
  split at h <;> [exact (Lane.ServesAs.light x _).conflict h; exact h]

/-- A lane out of service is out, so it is DARK or locked when it is put into service (R129). -/
theorem Lane.Shown.enabled {x : Lane} {present : Bool} {state : Fin 4 → RampState} (h : x.Shown present state)
    (hoff : x.inService = false) : ({ x with inService := true } : Lane).Shown present state := by
  refine Lane.shown_of_out ?_ h.bound h.suspect
  show x.isOut = true
  cases hout : x.isOut with
  | true => rfl
  | false => exact absurd (h.service hout).1 (by simp [hoff])

theorem serveLaneEnable_passes (l : Fin 8) (s : State) : s.Passes g (serveLaneEnable l s).state := by
  unfold serveLaneEnable
  split <;> [exact .refl s; skip]
  split <;> [exact .refl s; skip]
  split <;> [exact .refl s; skip]
  split <;> [exact .refl s; skip]
  next hoff =>
  refine rewriteLane_passes (fun hs => lightIfMetering_shown ((hs.lane l).enabled (Bool.not_eq_true _ ▸ hoff)))
    (fun ht => by rw [lightIfMetering_timings]; exact ht) fun hc =>
      ⟨lightIfMetering_ramp s _, lightIfMetering_conflict (x := { s.lane l with inService := true }) hc⟩

/-- A lane that is put out of service is out, or takes its stop path (R123, R130). -/
theorem Lane.Shown.disable {x : Lane} {present : Bool} {state : Fin 4 → RampState} (h : x.Shown present state) :
    x.disable.Shown present state := by
  unfold Lane.disable
  split
  · next hout => exact Lane.shown_of_out hout h.bound h.suspect
  · split
    · exact h
    · exact Lane.Lights.stopPath (x := { x with leaving := true }) ⟨h.bound, h.supplied, h.service, h.suspect⟩

theorem Lane.disable_timings (x : Lane) : x.disable.timings = x.timings := by
  unfold Lane.disable
  split <;> [rfl; skip]
  split <;> [rfl; exact Lane.stopPath_timings _]

theorem Lane.disable_conflict {x : Lane} (h : x.disable.state = .faultLocked .conflict) : x.state = .faultLocked .conflict := by
  unfold Lane.disable at h
  split at h <;> [exact h; skip]
  split at h <;> [exact h; exact (Lane.ServesAs.stopPath { x with leaving := true }).conflict h]

theorem disableLane_passes (l : Fin 8) (s : State) : s.Passes g (s.rewriteLane l (s.lane l).disable) :=
  rewriteLane_passes (fun hs => (hs.lane l).disable) (fun ht => by rw [Lane.disable_timings]; exact ht)
    fun hc => ⟨Lane.disable_ramp _, Lane.disable_conflict hc⟩

/-- A lane restored is DARK, and lights if its ramp meters (R115, R131). -/
theorem serveLaneRestore_passes (l : Fin 8) (s : State) : s.Passes g (serveLaneRestore l s).state := by
  unfold serveLaneRestore
  split <;> [skip; exact .refl s]
  have hdark : ((s.lane l).enter .dark).Alike { (s.lane l).enter .dark with rechecks := 0 } := rfl
  refine rewriteLane_passes (fun _ => lightIfMetering_shown (hdark.shown (Lane.enter_dark_shown _)))
    (fun ht => by rw [lightIfMetering_timings]; exact ht) fun hc => ?_
  exact absurd (lightIfMetering_conflict hc) nofun

end LaneRequests

end Sys2Proof.Machine

/-! # The requests and events of the ramps pass them on -/

namespace Sys2Proof.Machine

/-! ## A ramp that enters another state with its lanes -/

/-- From `s` to `t` ramp `r` changes with its own lanes; the lanes serve as before, and presence stands. -/
structure State.TurnsOver (s : State) (r : Fin 4) (t : State) : Prop where
  present : t.lamp.present = s.lamp.present
  other : ∀ i, i ≠ r → t.ramp i = s.ramp i
  lane : ∀ l, (s.lane l).ramp ≠ some r → t.lane l = s.lane l
  serves : ∀ l, (s.lane l).ServesAs (t.lane l)
  chan : SamePresence s t

namespace State.TurnsOver
variable {s t : State} {r : Fin 4}

theorem rampState_ne (h : s.TurnsOver r t) {i : Fin 4} (hi : i ≠ r) : t.rampState i = s.rampState i := by
  rw [State.rampState, h.other i hi]; rfl

theorem display (h : s.TurnsOver r t) (hs : s.DisplaySound)
    (hr : ∀ l, (s.lane l).ramp = some r → (t.lane l).Shown s.lamp.present t.rampState) : t.DisplaySound := by
  rw [displaySound_iff, h.present]
  intro l
  by_cases hl : (s.lane l).ramp = some r
  · exact hr l hl
  · rw [h.lane l hl]
    exact (hs.lane l).of_states fun i hi => h.rampState_ne fun e => hl (e ▸ hi)

theorem waiting (h : s.TurnsOver r t) (hs : s.WaitingSound)
    (hr : (t.ramp r).sched.waiting.Nodup ∧ ∀ l, l ∈ (t.ramp r).sched.waiting ↔ t.calls r l = true) : t.WaitingSound := by
  intro i
  by_cases hi : i = r
  · exact hi ▸ hr
  · have hcalls : t.calls i = s.calls i := by
      refine calls_congr_at (by rw [h.rampState_ne hi]) (fun l => ?_) fun l _ => by rw [demand_of_presence h.chan]
      by_cases hl : (s.lane l).ramp = some r
      · have hne : (s.lane l).ramp ≠ some i := fun e => hi (Option.some.inj (e.symm.trans hl))
        simp [Lane.ReadyFor, (h.serves l).ramp, hne]
      · rw [h.lane l hl]
    rw [h.other i hi, hcalls]
    exact hs i

theorem metering (h : s.TurnsOver r t) (hs : s.MeteringSound) (hcharged : (t.ramp r).Charged) (hunlocked : t.Unlocked r)
    (hcapped : t.Capped r) : t.MeteringSound := by
  rw [meteringSound_iff] at hs ⊢
  refine ⟨fun l => (h.serves l).timings ▸ hs.1 l, fun i => ?_⟩
  by_cases hi : i = r
  · exact hi ▸ ⟨hcharged, hunlocked, .inr hcapped⟩
  · have hcarries : (s.ramp i).Carries (t.ramp i) := h.other i hi ▸ .refl _
    obtain ⟨hc, hu, hp⟩ := hs.2 i
    exact ⟨hcarries.charged hc, hu.next h.serves hcarries, hp.imp_right fun hc => hc.next h.serves hcarries⟩

end State.TurnsOver

theorem restartedChan_presence {s t : State} {r : Fin 4} (h : ∀ c, t.chan c = s.restartedChan r c) : SamePresence s t := by
  intro c; rw [h]; exact ⟨rfl, rfl, rfl⟩

/-- A list formed anew from one without repeats is sound. -/
theorem reformed_listed (t : State) (r : Fin 4) {x : Ramp} (h : x.sched.waiting.Nodup) :
    (x.reformed t r).sched.waiting.Nodup ∧ ∀ l, l ∈ (x.reformed t r).sched.waiting ↔ t.calls r l = true := by
  refine ⟨(h.filter _).append ((List.nodup_finRange 8).filter _) fun l h1 h2 => ?_, fun l => ?_⟩
  · simp_all [List.mem_filter]
  · simp only [Ramp.reformed, List.mem_append, List.mem_filter, List.mem_finRange, true_and, Bool.and_eq_true,
      Bool.not_eq_true', List.contains_eq_mem, decide_eq_false_iff_not]
    tauto

theorem reformed_carries (t : State) (r : Fin 4) (x : Ramp) : x.Carries (x.reformed t r) :=
  ⟨rfl, id, fun _ => id, fun h => ⟨h, rfl, id⟩⟩

/-! ## The start -/

section Start
variable {g : Prop} {s : State} {r : Fin 4}

theorem enterMetering_turnsOver (s : State) (r : Fin 4) (rateStart : Nat) : s.TurnsOver r (s.enterMetering r rateStart) where
  present := by rw [(enterMetering_recordsMove s r rateStart).lamp]
  other _ hi := enterMetering_ramp_ne hi rateStart
  lane l hl := by rw [enterMetering_lane, if_neg hl]
  serves l := by rw [enterMetering_lane]; split <;> [exact .light _ _; exact .refl _]
  chan := restartedChan_presence (enterMetering_chan s r rateStart)

/-- The conditions of a start: an active plan, an able lane, and no lane in conflict (R64). -/
theorem startBar_none (h : s.startBar r = none) : (s.ramp r).ctl.active.isSome = true ∧ s.ableLanes r ≠ []
    ∧ ∀ l, (s.lane l).ramp = some r → (s.lane l).state ≠ .faultLocked .conflict := by
  unfold State.startBar at h
  split at h <;> [simp at h; skip]
  next hactive =>
  split at h <;> [simp at h; skip]
  next hable =>
  split at h <;> [simp at h; skip]
  next hlock =>
  rw [conflictLocked_iff] at hlock
  refine ⟨by simpa [Option.isSome_iff_ne_none] using hactive, fun he => hable (by simp [he]), fun l hl hc => hlock ⟨l, hl, hc⟩⟩

/-- A start from STANDBY with the conditions of R64 met and a rate start that a lane can serve (R65, R84). -/
theorem enterMetering_passes {rateStart : Nat} (hs : s.rampState r = .standby) (hbar : s.startBar r = none)
    (hrate : g → 94 ≤ rateStart) : s.Passes g (s.enterMetering r rateStart) := by
  obtain ⟨hactive, hable, hunlocked⟩ := startBar_none hbar
  have hturns := enterMetering_turnsOver s r rateStart
  have hself := enterMetering_ramp_self s r rateStart
  have hstate : (s.enterMetering r rateStart).rampState r = .metering := by rw [State.rampState, hself]; rfl
  refine ⟨fun h => hturns.display h fun l hl => ?_, fun h => hturns.waiting h ?_, fun hg h => ?_⟩
  · rw [enterMetering_lane, if_pos hl]
    have hout : (s.lane l).isOut = true := (h.lane l).isOut hl (by rw [hs]; rfl)
    refine ((h.lane l).shown_of_out hout).light fun i hi => ?_
    obtain rfl : r = i := Option.some.inj (hl.symm.trans hi)
    exact .inl hstate
  · rw [hself]
    exact reformed_listed _ r List.nodup_nil
  · rw [meteringSound_iff] at h
    have hceiling : (s.ramp r).rate.ceiling = s.ceilingOf r := ((h.2 r).2.2.resolve_left id).ceiling
    have hleast := ceilingOf_least h.1 hable
    have hcarries := reformed_carries (s.enterMetering r rateStart) r ((s.ramp r).started rateStart)
    have hcharged : ((s.ramp r).started rateStart).Charged :=
      ⟨fun _ => hactive, fun _ => ⟨le_min (hrate hg) (hceiling ▸ hleast), rfl⟩, fun _ => ⟨rfl, rfl⟩⟩
    refine hturns.metering ((meteringSound_iff s).2 h) (hself ▸ hcarries.charged hcharged) (fun _ l hl hc => ?_)
      ⟨?_, fun _ => ?_⟩
    · exact hunlocked l ((hturns.serves l).ramp ▸ hl) ((hturns.serves l).conflict hc)
    · rw [hself, ceilingOf_of_servesAs hturns.serves]; exact hceiling
    · rw [hself, ceilingOf_of_servesAs hturns.serves, ← hceiling]; exact min_le_right _ _

/-- The rates of the plans lie where a lane can serve them. -/
def State.RatesLeast (s : State) : Prop :=
  ∀ p, 94 ≤ (s.plan p).fields.rateMin ∧ (s.plan p).fields.rateMin ≤ (s.plan p).fields.rateMax
    ∧ 94 ≤ (s.plan p).fields.rateStart

theorem State.PlansSound.ratesLeast (h : s.PlansSound) : s.RatesLeast := by
  intro p
  obtain ⟨-, -, ⟨hmin, -⟩, -, ⟨hstart, -⟩, -, -, -, -, -, -, -, -, -, hle, -⟩ := (h.1 p).1
  omega

theorem startRamp_passes (hs : s.rampState r = .standby) (hbar : s.startBar r = none) (hg : g → s.RatesLeast) :
    s.Passes g (s.startRamp r) := by
  unfold State.startRamp
  split <;> [exact .refl s; exact enterMetering_passes hs hbar fun h => (hg h _).2.2]

end Start

/-! ## SUSPENDED, and the return to METERING -/

section Suspension
variable {g : Prop} {s : State} {r : Fin 4}

theorem Lane.Lights.of_up {x : Lane} {present : Bool} {state state' : Fin 4 → RampState} (h : x.Lights present state)
    (hup : ∀ r, x.ramp = some r → (state' r).isUp = true) : x.Lights present state' :=
  ⟨h.bound, h.supplied, fun hout => ⟨(h.service hout).1, hup⟩, h.suspect⟩

/-- A lane of a running ramp is on the display of the running state it goes to, but for the red and the green that rest on the
state it leaves (R122). -/
theorem Lane.Shown.of_runs {x : Lane} {present : Bool} {state state' : Fin 4 → RampState} (h : x.Shown present state)
    (hruns : ∀ r, x.ramp = some r → state' r = .metering ∨ state' r = .suspended)
    (hready : x.state = .redReady → ∀ r, x.ramp = some r → state' r = .metering)
    (hrests : x.state = .resting → ∀ r, x.ramp = some r → state' r = .suspended) : x.Shown present state' :=
  ⟨h.of_up fun r hb => by obtain hs | hs := hruns r hb <;> simp [hs, RampState.isUp],
    fun hs => ⟨(h.serves hs).1, hruns⟩, hready, hrests⟩

theorem enterSuspended_turnsOver (s : State) (r : Fin 4) (minutes : Nat) : s.TurnsOver r (s.enterSuspended r minutes) where
  present := by rw [(enterSuspended_recordsMove s r minutes).lamp]
  other i hi := by rw [enterSuspended_ramp, if_neg hi]
  lane l hl := by rw [enterSuspended_lane, if_neg fun h => hl h.1]
  serves l := by
    rw [enterSuspended_lane]
    split
    · next h => exact .enter (by simp [Lane.isLocked, h.2]) rfl
    · exact .refl _
  chan := restartedChan_presence (enterSuspended_chan s r minutes)

theorem suspended_carries {x : Ramp} (h : x.ctl.state = .metering) (minutes : Nat) : x.Carries (x.suspended minutes) :=
  ⟨rfl, fun _ => .inl h, fun _ => id, fun hf => absurd hf Bool.false_ne_true⟩

theorem enterSuspended_passes (hs : s.rampState r = .metering) (minutes : Nat) : s.Passes g (s.enterSuspended r minutes) := by
  have hturns := enterSuspended_turnsOver s r minutes
  have hself : (s.enterSuspended r minutes).ramp r = (s.ramp r).suspended minutes := by rw [enterSuspended_ramp, if_pos rfl]
  have hstate : (s.enterSuspended r minutes).rampState r = .suspended := by rw [State.rampState, hself]; rfl
  refine ⟨fun h => hturns.display h fun l hl => ?_, fun h => hturns.waiting h ?_, fun _ h => ?_⟩
  · have hx := h.lane l
    have hsus {i : Fin 4} (hi : (s.lane l).ramp = some i) : (s.enterSuspended r minutes).rampState i = .suspended := by
      obtain rfl : r = i := Option.some.inj (hl.symm.trans hi)
      exact hstate
    rw [enterSuspended_lane]
    split
    · next hred =>
      have hserves : (s.lane l).state.serves = true := by simp [hred.2, LaneState.serves]
      exact (hx.of_up fun i hi => by rw [hsus hi]; rfl).move (by simp [Lane.isOut, Lane.isLocked, hred.2]) rfl
        (fun _ => hx.supplied (.inl (by simp [Lane.isLit, LaneState.aspect, hred.2])))
        (fun _ => ⟨hx.not_leaving hserves, fun i hi => .inr (hsus hi)⟩) nofun fun _ i hi => hsus hi
    · next hred =>
      exact hx.of_runs (fun i hi => .inr (hsus hi)) (fun hs => absurd ⟨hl, hs⟩ hred) fun _ i hi => hsus hi
  · exact State.Uncalled.listed ⟨by rw [hself]; rfl, calls_idle (by rw [hstate]; exact RampState.noConfusion)⟩
  · rw [meteringSound_iff] at h
    obtain ⟨hcharged, hunlocked, hcapped⟩ := h.2 r
    have hcarries : (s.ramp r).Carries ((s.enterSuspended r minutes).ramp r) := by
      rw [hself]; exact suspended_carries hs minutes
    exact hturns.metering ((meteringSound_iff s).2 h) (hcarries.charged hcharged) (hunlocked.next hturns.serves hcarries)
      ((hcapped.resolve_left id).next hturns.serves hcarries)

theorem resumeRamp_turnsOver (s : State) (r : Fin 4) : s.TurnsOver r (s.resumeRamp r) where
  present := by rw [(resumeRamp_recordsMove s r).lamp]
  other _ hi := resumeRamp_ramp_ne hi
  lane l hl := by rw [resumeRamp_lane, if_neg fun h => hl h.1, if_neg fun h => hl h.1]
  serves l := by
    rw [resumeRamp_lane]
    split
    · next h => exact .enter (by simp [Lane.isLocked, h.2]) rfl
    · split
      · next h => exact .enter (by simp [Lane.isLocked, h.2.1]) (by cases s.lamp.present <;> rfl)
      · exact .refl _
  chan := restartedChan_presence (resumeRamp_chan s r)

theorem resumeRamp_passes (hs : s.rampState r = .suspended) : s.Passes g (s.resumeRamp r) := by
  have hturns := resumeRamp_turnsOver s r
  have hself := resumeRamp_ramp_self s r
  have hstate : (s.resumeRamp r).rampState r = .metering := by rw [State.rampState, hself]; rfl
  refine ⟨fun h => hturns.display h fun l hl => ?_, fun h => hturns.waiting h ?_, fun _ h => ?_⟩
  · have hx := h.lane l
    have hmeters {i : Fin 4} (hi : (s.lane l).ramp = some i) : (s.resumeRamp r).rampState i = .metering := by
      obtain rfl : r = i := Option.some.inj (hl.symm.trans hi)
      exact hstate
    have hup : ∀ i, (s.lane l).ramp = some i → ((s.resumeRamp r).rampState i).isUp = true := fun i hi => by
      rw [hmeters hi]; rfl
    rw [resumeRamp_lane]
    split
    · next hrest =>
      exact (hx.of_up hup).move (by simp [Lane.isOut, Lane.isLocked, hrest.2]) rfl
        (fun _ => hx.supplied (.inl (by simp [Lane.isLit, LaneState.aspect, hrest.2]))) nofun nofun nofun
    · next hrest =>
      have hshown : (s.lane l).Shown s.lamp.present (s.resumeRamp r).rampState :=
        hx.of_runs (fun i hi => .inl (hmeters hi)) (fun _ i hi => hmeters hi) fun hs => absurd ⟨hl, hs⟩ hrest
      have hlight := hshown.light fun i hi => .inl (hmeters hi)
      rw [Lane.light_eq] at hlight
      simpa only [hl, true_and] using hlight
  · rw [hself]
    exact reformed_listed _ r (h r).1
  · rw [meteringSound_iff] at h
    obtain ⟨hcharged, hunlocked, hcapped⟩ := h.2 r
    have hcapped := hcapped.resolve_left id
    have hruns : (s.ramp r).Runs := .inr hs
    have hresumed : (s.ramp r).resumed.Charged :=
      ⟨fun _ => hcharged.active hruns, fun _ => hcharged.rate hruns, fun _ => ⟨rfl, rfl⟩⟩
    have hcarries := reformed_carries (s.resumeRamp r) r (s.ramp r).resumed
    refine hturns.metering ((meteringSound_iff s).2 h) (hself ▸ hcarries.charged hresumed) (fun _ l hl hc => ?_)
      ⟨?_, fun _ => ?_⟩
    · exact hunlocked hruns l ((hturns.serves l).ramp ▸ hl) ((hturns.serves l).conflict hc)
    · rw [hself, ceilingOf_of_servesAs hturns.serves]; exact hcapped.ceiling
    · rw [hself, ceilingOf_of_servesAs hturns.serves]; exact hcapped.within hruns

end Suspension

end Sys2Proof.Machine

/-! # Rates, configurations, interval closes and resets pass them on -/

namespace Sys2Proof.Machine

/-! ## One ramp record written -/

section Written
variable {g : Prop} {s : State} {r : Fin 4} {x : Ramp}

/-- A ramp stays in its state, with its list, on a rate part that keeps metering. -/
theorem setRamp_passes (hstate : x.ctl.state = s.rampState r) (hlist : x.sched.waiting = (s.ramp r).sched.waiting)
    (hx : g → s.MeteringSound → x.Charged ∧ x.rate.ceiling = s.ceilingOf r ∧ (x.Runs → x.rate.final ≤ s.ceilingOf r)) :
    s.Passes g (s.setRamp r x) := by
  refine ⟨fun h => displaySound_alike h rfl (setRamp_rampState hstate) fun _ => rfl, fun h => ?_, fun hg h => ?_⟩
  · rw [waitingSound_iff] at h ⊢
    exact h.next fun i => .inl (setRamp_steady (by rw [hstate]) hlist i)
  · obtain ⟨hcharged, hceiling, hwithin⟩ := hx hg h
    rw [meteringSound_iff] at h ⊢
    refine h.setRamp hcharged (fun hruns => ?_) (.inr ⟨?_, ?_⟩)
    · rw [State.setRamp_ramp_self] at hruns
      refine (h.2 r).2.1 ?_
      unfold Ramp.Runs at hruns ⊢
      rwa [hstate] at hruns
    · rwa [State.setRamp_ramp_self]
    · rwa [State.setRamp_ramp_self]

/-- A ramp that is not in operation, and stays so, takes a record with an empty list and the ceiling of its lanes. -/
theorem setRamp_down_passes (hs : (s.rampState r).isUp = false) (hx : x.ctl.state.isUp = false)
    (hlist : x.sched.waiting = []) (hfresh : x.sched.fresh = false)
    (hceiling : s.MeteringSound → x.rate.ceiling = s.ceilingOf r) : s.Passes g (s.setRamp r x) := by
  have hself : (s.setRamp r x).ramp r = x := State.setRamp_ramp_self s r x
  have hruns : ¬ x.Runs := by rintro (h | h) <;> simp [h, RampState.isUp] at hx
  have hturns : s.TurnsOver r (s.setRamp r x) :=
    ⟨rfl, fun i hi => by rw [State.setRamp_ramp, if_neg hi], fun _ _ => rfl, fun _ => .refl _, fun _ => ⟨rfl, rfl, rfl⟩⟩
  refine ⟨fun h => hturns.display h fun l hl => (h.lane l).shown_of_out ((h.lane l).isOut hl hs),
    fun h => hturns.waiting h (State.Uncalled.listed ⟨by rwa [hself], calls_idle ?_⟩), fun _ h => ?_⟩
  · rw [State.rampState, hself]
    rintro hm
    simp [hm, RampState.isUp] at hx
  · refine hturns.metering h ?_ (fun hr => absurd (hself ▸ hr) hruns) ⟨?_, fun hr => absurd (hself ▸ hr) hruns⟩
    · rw [hself]
      exact ⟨fun hr => absurd hr hruns, fun hr => absurd hr hruns, fun hf => absurd (hf.symm.trans hfresh) nofun⟩
    · rw [hself]; exact hceiling h

end Written

/-! ## Configuration, plan and mode -/

section Configuration
variable {g : Prop} {s : State} {r : Fin 4}

theorem openRamp_passes (hs : s.rampState r = .closed) (p : RampSettings) : s.Passes g (s.openRamp r p) := by
  rw [openRamp_eq]
  exact setRamp_down_passes (by rw [hs]; rfl) rfl rfl rfl fun _ => rfl

theorem ceilingOf_unheld (h : s.rampHeld r = false) : s.ceilingOf r = 0 := by
  obtain ⟨hmembers, -⟩ := unbound_of_unheld h
  exact ceilingOf_unable (by rw [State.ableLanes, hmembers]; rfl)

theorem closeRamp_passes (hs : s.rampState r = .standby) (hheld : s.rampHeld r = false) :
    s.Passes g (s.setRamp r Ramp.fullReset) :=
  setRamp_down_passes (by rw [hs]; rfl) rfl rfl rfl fun _ => (ceilingOf_unheld hheld).symm

theorem reconfigureRamp_alike (s : State) (r : Fin 4) (p : RampSettings) : s.Alike (s.reconfigureRamp r p) := by
  refine ⟨by rw [reconfigureRamp_frame], fun l => by rw [reconfigureRamp_frame]; rfl, fun c => ?_, fun i => ?_⟩
  · rw [reconfigureRamp_chan]; split <;> exact ⟨rfl, rfl, rfl⟩
  · rw [reconfigureRamp_ramp]; split
    · next e => rw [e]; exact .of_parts rfl rfl rfl rfl
    · exact .refl _

theorem serveRampConfigure_passes (p : RampSettings) (r : Fin 4) (s : State) :
    s.Passes g (serveRampConfigure p r s).state := by
  unfold serveRampConfigure
  split
  · next h => exact openRamp_passes h _
  · exact (reconfigureRamp_alike s r _).passes
  all_goals exact .refl s

theorem serveRampClose_passes (r : Fin 4) (s : State) : s.Passes g (serveRampClose r s).state := by
  unfold serveRampClose
  split <;> [exact .refl s; skip]
  next hs =>
  split <;> [exact .refl s; skip]
  next hheld => exact closeRamp_passes (not_not.1 hs) (Bool.not_eq_true _ ▸ hheld)

/-- A plan is named anew in STANDBY alone; a running ramp keeps its own until a close (R54, R72). -/
theorem assign_alike (s : State) (r : Fin 4) (plan : Option (Fin 16)) : s.Alike (s.modCtl r (RampControl.assign plan)) := by
  rw [State.modCtl_eq]
  refine setRamp_alike ⟨?_, fun hruns => ?_, rfl, rfl, fun hf => ⟨hf, rfl⟩⟩ <;> unfold RampControl.assign
  · split <;> rfl
  · have hup : (s.ramp r).ctl.state ≠ .standby := by obtain h | h := hruns <;> simp [h]
    rw [if_neg hup]; exact id

theorem serveRampPlan_passes (plan : Byte) (r : Fin 4) (s : State) : s.Passes g (serveRampPlan plan r s).state := by
  unfold serveRampPlan
  split <;> [exact .refl s; skip]
  split <;> [exact .refl s; skip]
  split <;> [exact .refl s; exact (assign_alike s r _).passes]

theorem clearRuns_alike {before s : State} : s.Alike (before.clearRuns s) :=
  mapRamps_alike fun r => by split <;> [exact .refl _; exact .of_parts rfl rfl rfl rfl]

theorem serveRampMode_passes (mode : Byte) (r : Fin 4) (s : State) : s.Passes g (serveRampMode mode r s).state := by
  unfold serveRampMode
  split <;> [exact .refl s; skip]
  split <;> [exact .refl s; skip]
  next m _ =>
  have hmode : s.Alike (s.modCtl r fun c => { c with mode := m }) := modCtl_alike rfl rfl
  exact hmode.passes.trans clearRuns_alike.passes

end Configuration

/-! ## Start, stop, suspension and override -/

section Running
variable {g : Prop}

theorem serveRampStart_passes (r : Fin 4) {s : State} (hg : g → s.RatesLeast) : s.Passes g (serveRampStart r s).state := by
  unfold serveRampStart
  split <;> [exact .refl s; skip]
  next hs =>
  split <;> [exact .refl s; skip]
  next hbar => exact startRamp_passes (not_not.1 hs) hbar hg

theorem serveRampStop_passes (r : Fin 4) (s : State) : s.Passes g (serveRampStop r s).state := by
  unfold serveRampStop
  split <;> [exact .refl s; exact stopRamp_passes s r]

theorem serveRampSuspend_passes (minutes : Nat) (r : Fin 4) (s : State) : s.Passes g (serveRampSuspend minutes r s).state := by
  unfold serveRampSuspend
  split <;> [exact .refl s; skip]
  next hs =>
  split <;> [exact .refl s; skip]
  split <;> [exact .refl s; exact enterSuspended_passes (not_not.1 hs) _]

theorem serveRampResume_passes (r : Fin 4) (s : State) : s.Passes g (serveRampResume r s).state := by
  unfold serveRampResume
  split <;> [skip; exact .refl s]
  next hs => exact resumeRamp_passes hs

/-- What metering keeps of a running ramp, at the ceiling of its lanes. -/
theorem State.MeteringSound.running {s : State} (h : s.MeteringSound) {r : Fin 4} (hr : (s.ramp r).Runs) :
    94 ≤ (s.ramp r).rate.ceiling ∧ (s.ramp r).rate.ceiling = s.ceilingOf r ∧ (s.ramp r).Charged := by
  rw [meteringSound_iff] at h
  obtain ⟨hcharged, -, hcapped⟩ := h.2 r
  have hcapped := hcapped.resolve_left id
  exact ⟨hcapped.ceiling ▸ (hcharged.rate hr).1.trans (hcapped.within hr), hcapped.ceiling, hcharged⟩

/-- A METERING ramp takes a rate between 94 and its ceiling (R91, R94). -/
theorem setRate_passes {s : State} {r : Fin 4} {x : Ramp} {q : Rate} (hs : s.rampState r = .metering)
    (hstate : x.ctl.state = .metering) (hactive : x.ctl.active = (s.ramp r).ctl.active)
    (hrate : x.rate = (s.ramp r).rate) (hsched : x.sched = (s.ramp r).sched)
    (hq : q.ceiling = (s.ramp r).rate.ceiling ∧ q.headway = ceilDiv 36000 q.final)
    (hfinal : g → 94 ≤ (s.ramp r).rate.ceiling → 94 ≤ q.final ∧ q.final ≤ (s.ramp r).rate.ceiling) :
    s.Passes g (s.setRamp r (x.handRate q)) := by
  refine setRamp_passes (hstate.trans hs.symm) (by rw [handRate_waiting, hsched]) fun hg h => ?_
  obtain ⟨hleast, hceiling, hcharged⟩ := h.running (.inl hs)
  obtain ⟨hlow, hhigh⟩ := hfinal hg hleast
  have hx : x.Charged :=
    ⟨fun _ => hactive ▸ hcharged.active (.inl hs), fun _ => hrate ▸ hcharged.rate (.inl hs), fun hf =>
      ⟨hstate, by rw [hsched, hrate]; exact (hcharged.fresh (hsched ▸ hf)).2⟩⟩
  exact ⟨handRate_charged hx fun _ => ⟨hlow, hq.2⟩, hq.1.trans hceiling, fun _ => hceiling ▸ hhigh⟩

theorem atOverride_range (rate : Nat) {q : Rate} (h : 94 ≤ q.ceiling) :
    94 ≤ (q.atOverride rate).final ∧ (q.atOverride rate).final ≤ q.ceiling :=
  ⟨le_max_left _ _, max_le h (min_le_right _ _)⟩

theorem setOverride_passes {s : State} {r : Fin 4} (hs : s.rampState r = .metering) (rate minutes : Nat) :
    s.Passes g (s.setOverride r rate minutes) :=
  setRate_passes (x := { s.ramp r with
      ctl := { (s.ramp r).ctl with override := some { rate := rate, minutes := minutes, run := 0 } } })
    hs hs rfl rfl rfl ⟨rfl, rfl⟩ fun _ => atOverride_range rate

theorem serveRampOverride_passes (rate minutes : Nat) (r : Fin 4) (s : State) :
    s.Passes g (serveRampOverride rate minutes r s).state := by
  unfold serveRampOverride
  split <;> [exact .refl s; skip]
  next hs =>
  split <;> [exact .refl s; exact setOverride_passes (not_not.1 hs) _ _]

theorem endOverride_alike (s : State) (r : Fin 4) : s.Alike (s.endOverride r) := modCtl_alike rfl rfl

end Running

/-! ## The interval close -/

section Close
variable {g : Prop} (s : State) (r : Fin 4)

theorem latchChannels_alike : s.Alike (s.latchChannels r) :=
  mapChans_alike fun c => by split <;> exact ⟨rfl, rfl, rfl⟩

theorem formStation_passes : s.Passes g (s.formStation r) := by
  have hformed (x : Station) : s.Alike (s.setRamp r { s.ramp r with station := x }) := setRamp_alike (.of_parts rfl rfl rfl rfl)
  unfold State.formStation
  simp only [State.modRamp_eq]
  split <;> [exact (hformed _).passes.trans (raise_passes ..); exact (hformed _).passes]

/-- A pending plan takes the place of the active one, and none leaves it (R54). -/
theorem applyPending_alike : s.Alike (s.applyPending r) := by
  refine ⟨by rw [applyPending_eq], fun l => by rw [applyPending_eq]; rfl,
    fun c => by rw [applyPending_chan]; exact ⟨rfl, rfl, rfl⟩,
    fun i => ?_⟩
  rw [applyPending_ramp]; split
  · next h =>
    obtain ⟨rfl, -⟩ := h
    refine ⟨rfl, fun _ ha => ?_, rfl, rfl, fun hf => ⟨hf, rfl⟩⟩
    cases hp : (s.ramp i).ctl.pending <;> simp [ha]
  · exact .refl _

theorem evaluateSpill_passes (p : PlanFields) : s.Passes g (s.evaluateSpill r p) := by
  have hjudged := modQueue_alike s r fun q => { q with spill := s.spills r p }
  unfold State.evaluateSpill
  split <;> [exact hjudged.passes.trans (raise_passes ..); exact hjudged.passes]

/-- The rate computed lies between the plan's least and the ceiling (R85 to R90). -/
theorem compute_range {p : PlanFields} (hmin : 94 ≤ p.rateMin) (hle : p.rateMin ≤ p.rateMax) (x : Station) (stored : Nat)
    (spill : Bool) {q : Rate} (h : 94 ≤ q.ceiling) :
    94 ≤ (q.compute p x stored spill).final ∧ (q.compute p x stored spill).final ≤ q.ceiling := by
  have hclamp := clampRate_eq hle (feedbackOf p x q.final)
  refine ⟨le_min (le_max_of_le_left ?_) h, min_le_right _ _⟩
  omega

theorem meterClose_passes {s : State} (hg : g → s.RatesLeast) (r : Fin 4) : s.Passes g (s.meterClose r) := by
  unfold State.meterClose
  split <;> [skip; exact .refl s]
  next p hs hp =>
  refine (evaluateSpill_passes s r (s.plan p).fields).trans ?_
  have hstate : (s.evaluateSpill r (s.plan p).fields).rampState r = .metering := by
    rw [State.rampState, evaluateSpill_ramp]; exact hs
  rw [State.computeRate, State.modRamp_eq]
  refine setRate_passes hstate hstate rfl rfl rfl ?_ fun h hceiling => ?_
  · split <;> exact ⟨rfl, rfl⟩
  · obtain ⟨hmin, hle, -⟩ := hg h p
    split
    · exact atOverride_range _ hceiling
    · exact compute_range hmin hle _ _ _ hceiling

theorem setRuns_passes (onRun offRun : Nat) : s.Passes g (s.setRuns r onRun offRun) :=
  State.Alike.passes (modCtl_alike rfl rfl)

theorem automaticStart_passes {s : State} {r : Fin 4} (hs : s.rampState r = .standby) (hg : g → s.RatesLeast) (p : PlanFields) :
    s.Passes g (s.automaticStart r p) := by
  rw [automaticStart_eq rfl]
  refine .either (fun _ => .either (fun hbar => ?_) fun _ => setRuns_passes s r 0 0) fun _ => setRuns_passes s r _ 0
  simp only [Bool.and_eq_true, Option.isNone_iff_eq_none] at hbar
  exact (startRamp_passes hs hbar.1 hg).trans (raise_passes ..)

theorem automaticStop_passes (p : PlanFields) : s.Passes g (s.automaticStop r p) := by
  rw [automaticStop_eq rfl]
  exact .either (fun _ => (stopRamp_passes s r).trans (raise_passes ..)) fun _ => setRuns_passes s r 0 _

theorem activate_passes {s : State} (hg : g → s.RatesLeast) (r : Fin 4) : s.Passes g (s.activate r) := by
  unfold State.activate
  split <;> [split; exact .refl s]
  · next hs _ => exact automaticStart_passes hs hg _
  · exact automaticStop_passes s r _
  · exact setRuns_passes s r 0 0

theorem ratesLeast_of_plan {s t : State} (h : t.plan = s.plan) (hs : s.RatesLeast) : t.RatesLeast := by
  unfold State.RatesLeast; rw [h]; exact hs

theorem closeInterval_passes {s : State} (hg : g → s.RatesLeast) (r : Fin 4) : s.Passes g (s.closeInterval r) := by
  have helapsed : s.Alike (s.modCtl r fun c => { c with elapsed := 0 }) := modCtl_alike rfl rfl
  have hlatched : s.Passes g (s.afterLatch r) := helapsed.passes.trans (latchChannels_alike _ r).passes
  have hmeasured := (hlatched.trans (formStation_passes _ r)).trans (applyPending_alike _ r).passes
  have hmetered := hmeasured.trans (meterClose_passes (fun h => ratesLeast_of_plan (measured_plan s r) (hg h)) r)
  rw [closeInterval_eq]
  rw [← closeMeasured_afterLatch] at hmetered
  exact hmetered.trans (activate_passes (fun h => ratesLeast_of_plan (closeMeasured_plan s r) (hg h)) r)

end Close

/-! ## Resets -/

section Resets
variable {g : Prop}

/-- A part whose lanes are out and whose ramps are down, with empty lists, is sound up to its timings and ceilings. -/
theorem atRest_passes {s t : State} (hlane : s.DisplaySound → ∀ l, (t.lane l).Shown t.lamp.present t.rampState)
    (hdown : ∀ r, (t.rampState r).isUp = false) (hlist : ∀ r, (t.ramp r).sched.waiting = [])
    (hfresh : ∀ r, (t.ramp r).sched.fresh = false)
    (htimings : s.MeteringSound → ∀ l, (t.lane l).timings.InRange)
    (hceiling : g → ∀ r, (t.ramp r).rate.ceiling = t.ceilingOf r) : s.Passes g t where
  display h := (displaySound_iff t).2 (hlane h)
  waiting _ := uncalled_waitingSound fun r => ⟨hlist r, calls_idle fun hm => by simpa [hm, RampState.isUp] using hdown r⟩
  metering hg h := by
    have hruns (r : Fin 4) : ¬ (t.ramp r).Runs := by
      have hd : ((t.ramp r).ctl.state).isUp = false := hdown r
      rintro (hm | hm) <;> simp [hm, RampState.isUp] at hd
    rw [meteringSound_iff]
    exact ⟨htimings h, fun r => ⟨⟨fun hr => absurd hr (hruns r), fun hr => absurd hr (hruns r),
      fun hf => absurd (hf.symm.trans (hfresh r)) nofun⟩, fun hr => absurd hr (hruns r),
      .inr ⟨hceiling hg r, fun hr => absurd hr (hruns r)⟩⟩⟩

theorem fullReset_passes (s : State) (kinds causes : ResetKinds) : s.Passes g ((s.fullReset kinds).setCauses causes) := by
  have hramp (r : Fin 4) : ((s.fullReset kinds).setCauses causes).ramp r = Ramp.fullReset := by
    simp [State.ramp, State.setCauses, State.fullReset]
  have hlane (l : Fin 8) : ((s.fullReset kinds).setCauses causes).lane l = Lane.fullReset (s.lane l).sense := by
    simp [State.lane, State.setCauses, State.fullReset]
  have hunbound (r : Fin 4) : ((s.fullReset kinds).setCauses causes).ableLanes r = [] := by
    simp [State.ableLanes, State.members, hlane, Lane.fullReset]
  refine atRest_passes (fun _ l => ?_) (fun r => ?_) (fun r => ?_) (fun r => ?_) (fun _ l => ?_) fun _ r => ?_
  · rw [hlane]; exact Lane.shown_of_out rfl (fun h => absurd rfl h) nofun
  · rw [State.rampState, hramp]; rfl
  · rw [hramp]; rfl
  · rw [hramp]; rfl
  · rw [hlane]; simp [LaneTimings.InRange, Lane.timings, Lane.fullReset]
  · rw [hramp, ceilingOf_unable (hunbound r)]; rfl

theorem Lane.restart_shown {x : Lane} {present present' : Bool} {state state' : Fin 4 → RampState} (h : x.Shown present state) :
    x.restart.Shown present' state' := by
  refine Lane.shown_of_out ?_ (fun hne => h.bound fun hd => hne ?_) nofun
  · rw [isOut_iff, Lane.isLocked_iff]
    show (if x.isLocked then x.state else .dark) = _ ∨ ∃ cause, (if x.isLocked then x.state else .dark) = _
    split
    · next hl => exact .inr ((Lane.isLocked_iff x).1 hl)
    · exact .inl rfl
  · show (if x.isLocked then x.state else .dark) = _
    split <;> [exact hd; rfl]

/-- The command restart forms the ceiling of every ramp from the lanes it leaves; a CLOSED one has none (R81). -/
theorem commandRestart_passes {s : State} (hg : g → s.BindingsSound) : s.Passes g s.commandRestart := by
  refine atRest_passes (fun h l => ?_) (fun r => ?_) (fun r => ?_) (fun r => ?_) (fun h l => ?_) fun h r => ?_
  · rw [commandRestart_lane]; exact Lane.restart_shown (h.lane l)
  · rw [State.rampState, commandRestart_ramp]; split <;> rfl
  · rw [commandRestart_ramp]; split <;> rfl
  · rw [commandRestart_ramp]; split <;> rfl
  · rw [commandRestart_lane]; exact h.1 l
  · rw [commandRestart_ramp]
    split <;> [skip; rfl]
    next hclosed =>
    have hnone : s.commandRestart.ableLanes r = [] := by
      refine List.eq_nil_iff_forall_not_mem.2 fun l hl => ?_
      have hb := ((mem_ableLanes _ r l).1 hl).1
      rw [commandRestart_lane] at hb
      exact (hg h).2.1 l r hb hclosed
    rw [ceilingOf_unable hnone]; rfl

end Resets

end Sys2Proof.Machine

/-! # Every command keeps the display, the lists and metering sound -/

namespace Sys2Proof.Machine

/-! ## How a command passes them on -/

/-- Whatever state the outcome hands on, the three pass to it. -/
def State.PassesIn (g : Prop) (s : State) (o : Host.Outcome State Fault Refusal) : Prop := ∀ t, o = .next t → s.Passes g t

section Outcomes
variable {g : Prop} {s : State}

theorem next_passes {t : State} (h : s.Passes g t) : s.PassesIn g (.next t) := by
  rintro u ⟨⟩; exact h

theorem event_passes {f : State → State} (h : s.Passes g (f s)) : s.PassesIn g (event f s) :=
  next_passes (.either (fun _ => .refl s) fun _ => h)

theorem missFrame_passes (s : State) : s.Passes g s.missFrame :=
  .ite fun _ => State.Alike.passes (.of_records rfl rfl rfl rfl)

theorem request_passes {armed : Bool} {serve : State → Served} (h : s.Passes g (serve s).state) :
    s.PassesIn g (request armed serve s) := by
  have hfinish : (serve s).state.Alike ((serve s).finish armed) := .of_records rfl rfl rfl rfl
  exact next_passes (.either (fun _ => h.trans hfinish.passes) fun _ => missFrame_passes s)

variable {b : Byte}

theorem withChannel_passes {serve : Fin 32 → State → Served} (h : ∀ c, s.Passes g (serve c s).state) :
    s.Passes g (withChannel b serve s).state := by
  unfold withChannel; split <;> [exact .refl s; exact h _]

theorem withPlan_passes {serve : Fin 16 → State → Served} (h : ∀ p, s.Passes g (serve p s).state) :
    s.Passes g (withPlan b serve s).state := by
  unfold withPlan; split <;> [exact .refl s; exact h _]

theorem withRamp_passes {serve : Fin 4 → State → Served} (h : ∀ r, s.Passes g (serve r s).state) :
    s.Passes g (withRamp b serve s).state := by
  unfold withRamp; split <;> [exact .refl s; exact h _]

theorem withLane_passes {serve : Fin 8 → State → Served} (h : ∀ l, s.Passes g (serve l s).state) :
    s.Passes g (withLane b serve s).state := by
  unfold withLane; split <;> [exact .refl s; exact h _]

end Outcomes

/-! ## Requests of the link, of supervision and of the plans -/

section Requests
variable {g : Prop} (s : State)

theorem serveSetLock_alike (kind : Byte) : s.Alike (serveSetLock kind s).state := by
  unfold serveSetLock
  repeat' split
  all_goals exact .of_records rfl rfl rfl rfl

theorem serveRestart_alike : s.Alike (serveRestart s).state := by
  unfold serveRestart
  repeat' split
  all_goals exact .of_records rfl rfl rfl rfl

theorem serveLampSettings_alike (qualify recheckN : Nat) : s.Alike (serveLampSettings qualify recheckN s).state := by
  unfold serveLampSettings
  split <;> exact .of_records rfl rfl rfl rfl

theorem stageReturn_passes : s.Passes g s.stageReturn := by
  have hstage : s.Alike { s with sup := { s.sup with stage := .present } } := .of_records rfl rfl rfl rfl
  exact hstage.passes.trans clearRuns_alike.passes

theorem serveKeepalive_passes (token : Byte) : s.Passes g (serveKeepalive token s).state := by
  have htimed : s.Alike
      { s with sup := { s.sup with lastToken := token, firstMark := false, timer := 0, keptAlive := true } } :=
    .of_records rfl rfl rfl rfl
  unfold serveKeepalive
  split <;> [exact .refl s; skip]
  split <;> [exact htimed.passes.trans (stageReturn_passes _); exact .refl s]

theorem serveSupervisionSet_passes (enable t1 : Byte) (t2 : Half) : s.Passes g (serveSupervisionSet enable t1 t2 s).state := by
  have hset : s.Alike { s with sup := s.sup.set (enable = 1) t1.toNat t2.toNat } := .of_records rfl rfl rfl rfl
  unfold serveSupervisionSet
  split <;> [exact .refl s; skip]
  split <;> [exact .refl s; exact hset.passes.trans (stageReturn_passes _)]

theorem riseOfCs_alike : s.Alike s.riseOfCs := by
  unfold State.riseOfCs
  repeat' split
  all_goals exact .of_records rfl rfl rfl rfl

theorem fallOfCs_passes : s.Passes g s.fallOfCs := by
  have hup : s.Passes g (if s.link.phase = .idle then s else s.riseOfCs) :=
    .either (fun _ => .refl s) fun _ => (riseOfCs_alike s).passes
  exact .either (fun _ => hup.trans (State.Alike.passes (.of_records rfl rfl rfl rfl))) fun _ => missFrame_passes s

theorem servePlanWrite_alike (sent : PlanFields) (p : Fin 16) : s.Alike (servePlanWrite sent p s).state := by
  unfold servePlanWrite
  split <;> exact .of_records rfl rfl rfl rfl

theorem servePlanRetire_alike (p : Fin 16) : s.Alike (servePlanRetire p s).state := by
  unfold servePlanRetire
  split <;> exact .of_records rfl rfl rfl rfl

end Requests

/-! ## Requests and events of the channels -/

section Channels
variable {g : Prop} (c : Fin 32) (s : State)

theorem serveDetectorConfigure_passes (role binding : Byte) (t : ChannelTimings) :
    s.Passes g (serveDetectorConfigure role binding t c s).state := by
  unfold serveDetectorConfigure
  split <;> [exact .refl s; skip]
  split <;> [exact .refl s; skip]
  split <;> [exact .refl s; exact rewriteChannel_passes s c _]

theorem serveDetectorPark_passes : s.Passes g (serveDetectorPark c s).state := by
  unfold serveDetectorPark; split
  case h_1 | h_2 => exact .refl s
  all_goals exact rewriteChannel_passes s c _

theorem serveDetectorUnpark_passes : s.Passes g (serveDetectorUnpark c s).state := by
  unfold serveDetectorUnpark; split
  case h_4 => exact rewriteChannel_passes s c _
  all_goals exact .refl s

theorem serveDetectorRestore_passes : s.Passes g (serveDetectorRestore c s).state := by
  unfold serveDetectorRestore; split
  case h_4 => exact rewriteChannel_passes s c _
  all_goals exact .refl s

theorem countVehicle_alike (d : Duty) : s.Alike (s.countVehicle d) := by
  refine ⟨by rw [countVehicle_frame], fun l => by rw [countVehicle_frame]; rfl, fun i => by
    rw [countVehicle_frame]; exact ⟨rfl, rfl, rfl⟩, fun r => ?_⟩
  rw [countVehicle_ramp]
  exact .of_parts rfl rfl rfl rfl

theorem actuated_passes : s.Passes g (s.actuated c) := by
  refine setChan_served_passes (x := (s.chan c).actuate) rfl (countVehicle_alike _ _) ?_
  rw [countVehicle_frame]
  exact setChan_boundRamp (x := (s.chan c).actuate) rfl

theorem actuate_passes : s.Passes g (s.actuate c) := by
  rw [actuate_eq]
  exact .either (fun _ => (actuated_passes c s).trans (failChannel_passes _ c _)) fun _ => actuated_passes c s

/-- A channel whose presence changes with its duty kept is heard by its ramp. -/
theorem setChan_refreshServed_passes {x : Channel} (hd : x.duty = (s.chan c).duty) :
    s.Passes g ((s.setChan c x).refreshServed c) := setChan_served_passes hd (.refl _) (setChan_boundRamp hd)

theorem modChan_failChannel_passes (f : Channel → Channel) (h : (s.chan c).Alike (f (s.chan c))) (kind : ChannelFault) :
    s.Passes g ((s.modChan c f).failChannel c kind) := (modChan_alike h).passes.trans (failChannel_passes _ c kind)

theorem correctQueue_passes (r : Fin 4) : s.Passes g (s.correctQueue c r) := by
  have htimed : s.Alike (s.modChan c fun x => { x with queueTimer := (s.ramp r).queue.queueCheck * 10, served := true }) :=
    modChan_alike ⟨rfl, rfl, rfl⟩
  exact htimed.passes.trans (modQueue_alike _ r Queue.raise).passes

theorem queueCorrection_passes : s.PassesIn g (execQueueCorrection c s) := by
  refine event_passes ?_
  cases (s.chan c).duty with
  | queue r => exact .ite fun _ => correctQueue_passes c s r
  | unused | mainline | entry | demand | passage => exact .refl s

theorem inputChange_alike (high : Bool) : s.Alike (s.modChan c (Channel.inputChange high)) :=
  modChan_alike (by unfold Channel.inputChange; split <;> exact ⟨rfl, rfl, rfl⟩)

end Channels

/-! ## Events of the ramps, the lanes and the part -/

section Events
variable {g : Prop} (s : State)

theorem grant_passes (r : Fin 4) : s.PassesIn g (execGrant r s) := by
  refine event_passes ?_
  split <;> [exact .refl s; skip]
  next l rest hlist =>
  refine .ite fun h => ?_
  simp only [Bool.and_eq_true, decide_eq_true_eq] at h
  exact grantLane_passes hlist h.2

theorem redSuspectOnset_passes (l : Fin 8) : s.PassesIn g (execRedSuspectOnset l s) := by
  refine event_passes (.ite fun h => ?_)
  split <;> [exact .refl s; skip]
  next r hr => exact redSuspect_passes s l h hr

theorem redRecheck_passes (l : Fin 8) : s.PassesIn g (execRedRecheck l s) :=
  event_passes (.either (fun _ => .refl s) fun hsuspect =>
    .either (fun _ => State.Alike.passes (modLane_alike rfl)) fun _ =>
      .either (fun _ => endSuspicion_passes s l) fun _ => failRecheck_passes s l (by simpa using hsuspect))

theorem conflictQualified_passes (l : Fin 8) : s.PassesIn g (execConflictQualified l s) := by
  refine event_passes ?_
  split <;> [skip; exact .refl s]
  next r detail hr _ => exact qualifyConflict_passes hr detail

theorem auxLampOut_passes (l : Fin 8) : s.PassesIn g (execAuxLampOut l s) := by
  have hmarked : s.Alike (s.modLane l fun x => { x with auxMark := true }) := modLane_alike rfl
  exact event_passes (.ite fun _ => hmarked.passes.trans (raise_passes ..))

theorem beginStage1_passes : s.Passes g s.beginStage1 := by
  have hstaged : s.Alike { s with sup := { s.sup with stage := .one, timer := s.sup.t1 * 10 } } := .of_records rfl rfl rfl rfl
  have hcancelled (t : State) : t.Alike t.cancelOverrides := mapRamps_alike fun _ => .of_parts rfl rfl rfl rfl
  exact ((hstaged.passes.trans (hcancelled _).passes).trans clearRuns_alike.passes).trans (raise_passes ..)

theorem beginStage2_passes : s.Passes g s.beginStage2 := by
  have hraised : s.Alike (raise .hostLost .part 255 2
      { s with sup := { s.sup with stage := .two, timer := (s.sup.t1 + s.sup.t2) * 10 } }) := .of_records rfl rfl rfl rfl
  refine hraised.passes.trans ⟨fun h => foldl_display (fun _ r hs => stopRamp_display hs r) _ h,
    fun h => stopAll_waiting h _, fun _ h => stopAll_metering h _⟩

theorem Lane.judgeConflict_alike (qualify : Nat) (x : Lane) : x.Alike (x.judgeConflict qualify) := by
  unfold Lane.judgeConflict
  repeat' split
  all_goals rfl

theorem Lane.judgeProving_alike (x before : Lane) : x.Alike (x.judgeProving before) := by
  unfold Lane.judgeProving
  repeat' split
  all_goals rfl

theorem Lane.senseChange_alike (qualify : Nat) (levels : Lamps) (x : Lane) : x.Alike (x.senseChange qualify levels) := by
  unfold Lane.senseChange
  split <;> [rfl; skip]
  split <;> [rfl; exact (Lane.judgeProving_alike _ _).trans (Lane.judgeConflict_alike qualify _)]

theorem lampSenseChange_passes (l : Fin 8) (red amber green : Bool) :
    s.PassesIn g (execLampSenseChange l red amber green s) := by
  refine next_passes (State.Alike.passes (modLane_alike ?_))
  split <;> [rfl; exact Lane.senseChange_alike _ _ _]

theorem supplyInput_passes (high : Bool) : s.Passes g (s.supplyInput high) := by
  have hseen : s.Alike { s with lamp := { s.lamp with lsup := high, supplyTimer := 0 } } := .of_records rfl rfl rfl rfl
  have hsettled (t : State) : t.Alike (t.mapLanes fun _ l => l.settleAnew) :=
    mapLanes_alike fun l => by unfold Lane.settleAnew; split <;> rfl
  unfold State.supplyInput
  exact .either (fun _ => .refl s) fun _ =>
    .either (fun _ => hseen.passes.trans (hsettled _).passes) fun _ => hseen.passes

end Events

/-! ## Time -/

theorem Lane.sample_alike (q : Nat) (tick : Bool) (x : Lane) : x.Alike (x.sample q tick) := by
  have hspec := (Lane.sample_spec q tick x).1
  rw [hspec]; rfl

theorem LampUnit.sample_present (x : LampUnit) : x.sample.present = x.present := by
  unfold LampUnit.sample; split <;> rfl

/-- 10 ms change no state, no presence and no rate, and end the moment of an entry to METERING. -/
theorem advance_alike (s : State) : s.Alike s.advance := by
  cases h : s.resetting with
  | true => rw [advance_resetting h]; exact .refl s
  | false =>
    refine ⟨?_, fun l => ?_, fun c => ?_, fun r => ?_⟩
    · simp only [State.advance, h, Bool.false_eq_true, if_false, LampUnit.sample_present]
    · rw [advance_lane h]; exact Lane.sample_alike _ _ _
    · rw [advance_chan h]; exact ⟨rfl, rfl, rfl⟩
    · rw [advance_ramp h, sampleRamp_eq]
      exact ⟨rfl, fun _ => id, rfl, rfl, fun hf => absurd hf Bool.false_ne_true⟩

/-! ## Every command -/

/-- What metering needs of the plans and the bindings at the step of a command. -/
def State.Founded (s : State) : Prop := s.PlansSound ∧ s.BindingsSound

/-- Each command by its own arm. -/
theorem exec_passes (i : Instr) (s : State) : s.PassesIn s.Founded (exec i s) := by
  have hrates : s.Founded → s.RatesLeast := fun h => h.1.ratesLeast
  unfold exec
  cases i with
  | readCaps | readStatus | faultRead | faultClear | alertMask | clearCauses | restartArm =>
    refine request_passes (State.Alike.passes ?_)
    exact .of_records rfl rfl rfl rfl
  | keepalive token => exact request_passes (serveKeepalive_passes s token)
  | supervisionSet enable t1 t2 => exact request_passes (serveSupervisionSet_passes s enable t1 t2)
  | setLock kind => exact request_passes (serveSetLock_alike s kind).passes
  | restart => exact request_passes (serveRestart_alike s).passes
  | lampSettings qualify recheckN => exact request_passes (serveLampSettings_alike s _ _).passes
  | badOpcode opcode =>
    show s.PassesIn _ (if _ then _ else _)
    split <;> [exact fun _ h => nomatch h; exact request_passes (.refl s)]
  | commandRestart => exact next_passes (.ite fun _ => commandRestart_passes And.right)
  | powerUpReset | pinReset | clockLossReset => exact next_passes (fullReset_passes s _ _)
  | resetEnd => exact next_passes (.ite fun _ => fullReset_passes s _ _)
  | frameBegin => exact next_passes (fallOfCs_passes s)
  | shortFrame => exact next_passes (riseOfCs_alike s).passes
  | detectorConfigure => exact request_passes (withChannel_passes fun c => serveDetectorConfigure_passes c s _ _ _)
  | detectorRead => exact request_passes (withChannel_passes fun _ => .refl s)
  | detectorPark => exact request_passes (withChannel_passes fun c => serveDetectorPark_passes c s)
  | detectorUnpark => exact request_passes (withChannel_passes fun c => serveDetectorUnpark_passes c s)
  | detectorRestore => exact request_passes (withChannel_passes fun c => serveDetectorRestore_passes c s)
  | planWrite => exact request_passes (withPlan_passes fun p => (servePlanWrite_alike s _ p).passes)
  | planRead => exact request_passes (withPlan_passes fun _ => .refl s)
  | planRetire => exact request_passes (withPlan_passes fun p => (servePlanRetire_alike s p).passes)
  | rampConfigure => exact request_passes (withRamp_passes fun r => serveRampConfigure_passes _ r s)
  | rampRead => exact request_passes (withRamp_passes fun _ => .refl s)
  | rampPlan => exact request_passes (withRamp_passes fun r => serveRampPlan_passes _ r s)
  | rampStart => exact request_passes (withRamp_passes fun r => serveRampStart_passes r hrates)
  | rampStop => exact request_passes (withRamp_passes fun r => serveRampStop_passes r s)
  | rampSuspend => exact request_passes (withRamp_passes fun r => serveRampSuspend_passes _ r s)
  | rampResume => exact request_passes (withRamp_passes fun r => serveRampResume_passes r s)
  | rampOverride => exact request_passes (withRamp_passes fun r => serveRampOverride_passes _ _ r s)
  | rampOverrideCancel => exact request_passes (withRamp_passes fun r => (endOverride_alike s r).passes)
  | rampClose => exact request_passes (withRamp_passes fun r => serveRampClose_passes r s)
  | rampMode => exact request_passes (withRamp_passes fun r => serveRampMode_passes _ r s)
  | laneConfigure => exact request_passes (withLane_passes fun l => serveLaneConfigure_passes _ _ l s)
  | laneRead => exact request_passes (withLane_passes fun _ => .refl s)
  | laneEnable => exact request_passes (withLane_passes fun l => serveLaneEnable_passes l s)
  | laneDisable => exact request_passes (withLane_passes fun l => disableLane_passes l s)
  | laneRestore => exact request_passes (withLane_passes fun l => serveLaneRestore_passes l s)
  | actuation c => exact event_passes (.ite fun _ => actuate_passes c s)
  | qualifiedFallingEdge c => exact event_passes (.ite fun _ => setChan_refreshServed_passes c s rfl)
  | acquisition c => exact event_passes (.ite fun _ => setChan_refreshServed_passes c s rfl)
  | stuckOnExpiry c => exact event_passes (.ite fun _ => modChan_failChannel_passes c s _ ⟨rfl, rfl, rfl⟩ _)
  | silenceExpiry c => exact event_passes (.ite fun _ => modChan_failChannel_passes c s _ ⟨rfl, rfl, rfl⟩ _)
  | chatterWindowEnd c => exact event_passes (.ite fun _ => State.Alike.passes (modChan_alike ⟨rfl, rfl, rfl⟩))
  | queueCorrection c => exact queueCorrection_passes c s
  | emptyCorrection r => exact event_passes (.ite fun _ => (modQueue_alike s r _).passes)
  | intervalClose r => exact event_passes (.either (fun _ => .refl s) fun _ => closeInterval_passes hrates r)
  | overrideExpiry r => exact event_passes (endOverride_alike s r).passes
  | suspensionExpiry r => exact event_passes (.ite fun h => resumeRamp_passes h)
  | holdOffEnd r => exact event_passes (.ite fun _ => State.Alike.passes (modCtl_alike rfl rfl))
  | grant r => exact grant_passes s r
  | provingClear l => exact event_passes (.ite fun _ => provingToStarting_passes)
  | provingWindowEnd l => exact event_passes (.ite fun h => provingFailed_passes h _ _ _ _)
  | startAmberExpiry l => exact event_passes (litToStopped_passes nofun rfl fun _ => rfl)
  | minRedExpiry l => exact event_passes minRedExpiry_passes
  | greenExpiry l => exact event_passes (litToStopped_passes nofun rfl fun _ => rfl)
  | amberExpiry l => exact event_passes (litToStopped_passes nofun rfl fun _ => rfl)
  | flushExpiry l => exact event_passes flushExpiry_passes
  | senseSettleEnd l => exact event_passes (State.Alike.passes (modLane_alike rfl))
  | redSuspectOnset l => exact redSuspectOnset_passes s l
  | redRecheck l => exact redRecheck_passes s l
  | conflictQualified l => exact conflictQualified_passes s l
  | auxLampOut l => exact auxLampOut_passes s l
  | supplyLoss => exact event_passes (.ite fun _ => loseSupply_passes)
  | supplyReturn => exact event_passes (.either (fun _ => .refl s) fun _ => regainSupply_passes)
  | stage1Onset => exact event_passes (.ite fun _ => beginStage1_passes s)
  | stage2Onset => exact event_passes (.ite fun _ => beginStage2_passes s)
  | detectorInputChange c high => exact next_passes (inputChange_alike c s high).passes
  | lampSenseChange l red amber green => exact lampSenseChange_passes s l red amber green
  | lampSupplyInputChange high => exact next_passes (supplyInput_passes s high)

/-- The front command, or with none waiting an event due or 10 ms. -/
theorem step_passes (s : State) : s.PassesIn s.Founded (step s) := by
  cases hp : s.pending with
  | cons c rest =>
    have hqueue : s.Alike { s with pending := rest } := .of_records rfl rfl rfl rfl
    rw [step, hp]
    exact fun u hu => hqueue.passes.trans (exec_passes c { s with pending := rest } u hu)
  | nil =>
    obtain ⟨hnone, hone, hmore⟩ := step_idle hp
    match hd : s.due with
    | [] => exact hnone hd ▸ next_passes (advance_alike s).passes
    | [e] => exact hone e hd ▸ exec_passes e s
    | _ :: _ :: _ =>
      obtain ⟨e, -, he⟩ := hmore (by simp [hd])
      have hchoice : s.Alike { s with choices := s.choices + 1 } := .of_records rfl rfl rfl rfl
      rw [he]
      exact fun u hu => hchoice.passes.trans (exec_passes e { s with choices := s.choices + 1 } u hu)

/-- Settles O57: what a step passes on, without a premise on the plans or the bindings. -/
theorem displayAndListsStaySound : Obligations.DisplayAndListsStaySound := fun s t h =>
  ⟨(step_passes s t h).display, (step_passes s t h).waiting⟩

/-- Settles O58: what a step passes on, with the plans and the bindings that a start, a close and a restart read. -/
theorem meteringStaysSound : Obligations.MeteringStaysSound := fun s t hplans hbindings hmetering h =>
  (step_passes s t h).metering ⟨hplans, hbindings⟩ hmetering

end Sys2Proof.Machine
